-- ==== Sys2Proof/Word.lean ====
section
/-! DEFINITION. The two word types of the machine: bytes (registers, memory cells, operand bytes) and
16-bit words (the program counter and addresses), spec/00_scope.md R6 and R8. -/

namespace Sys2Proof

/-- An 8-bit value: `A`, `X`, `Y`, `SP`, `P`, a memory byte, an operand byte (R6, R8). -/
abbrev Byte := BitVec 8

/-- A 16-bit value: `PC`, an address, a 16-bit operand (R6, R8). -/
abbrev Word := BitVec 16

end Sys2Proof
end

