-- ==== Sys2Proof/Machine/Bits.lean ====
section
/-! DEFINITION. Byte order, extension and page helpers (spec/00_scope.md R8, spec/20_memory.md R71). -/

namespace Sys2Proof.Machine

/-- The low byte of a word, `w[7:0]`. -/
def loByte (w : Word) : Byte := w.setWidth 8

/-- The high byte of a word, `w[15:8]`, which is also the page number of an address (R13). -/
def hiByte (w : Word) : Byte := (w >>> 8).setWidth 8

/-- `zext_16` (R8). -/
def zext16 (b : Byte) : Word := b.setWidth 16

/-- `lo | (hi << 8)`: the word whose low byte is `lo` and whose high byte is `hi` (R64, R90). -/
def wordOf (lo hi : Byte) : Word := zext16 lo ||| (zext16 hi <<< 8)

/-- `sext_16` (R8): `b` if `b[7] = 0`, else `b + $FF00`. -/
def sext16 (b : Byte) : Word := if b.getLsbD 7 then zext16 b + 0xFF00 else zext16 b

/-- The two addresses lie in different pages (R13, R135). -/
def pagesDiffer (a b : Word) : Bool := (a &&& 0xFF00) != (b &&& 0xFF00)

end Sys2Proof.Machine
end

