-- ==== Sys2Proof/Config.lean ====
section
/-! DEFINITION. What the spec fixes for the machine once and for all: the parameters of
spec/00_scope.md R6 (vectors, the stack page, the reset values, the default load origin).
The instruction table, which is configuration too (R20, R95), stands in Decode.lean. The four named parameters of R7 are
arguments of the model: `DefinedOpcodes` and `BrkReturnOffset` in `Parameters` below, `InitialRegisters` and
`InitialMemory` of `Machine.State.construct`.
The spec leaves no result of an instruction undefined, so there is no free value here. -/

namespace Sys2Proof.Config

/-- The NMI vector, $FFFA/$FFFB (R6, R75). -/
def nmiVector : Word := 0xFFFA

/-- The reset vector, $FFFC/$FFFD (R6, R75, R301). -/
def resetVector : Word := 0xFFFC

/-- The IRQ/BRK vector, $FFFE/$FFFF (R6, R75). -/
def irqVector : Word := 0xFFFE

/-- The base of the stack page $0100-$01FF (R25, R67). -/
def stackPage : Word := 0x0100

/-- `SP` after reset (R6, R46, R300). -/
def resetSP : Byte := 0xFD

/-- `P` after reset: InterruptDisable and the unused bit set, all else clear (R26, R46, R300). -/
def resetP : Byte := 0x24

/-- The default origin of the host's load (R6, R83). -/
def loadOrigin : Word := 0x8000

end Sys2Proof.Config

namespace Sys2Proof

/-- The parameters of R7 that a step depends on; `Machine.stepWith` takes them, and `Machine.standardParameters` holds
their defaults. -/
structure Parameters where
  /-- `DefinedOpcodes` (R7, D1, U2): which opcode bytes have a table entry. A byte for which the spec gives no record
  (R97) has none whatever is set here (log entry 4). -/
  definedOpcodes : Byte → Bool
  /-- `BrkReturnOffset` (R7, D10, U7): the return address BRK pushes, counted from the BRK opcode's address. -/
  brkReturnOffset : Word

end Sys2Proof
end

