-- ==== Sys2Proof/Machine/State.lean ====
section
/-! DEFINITION. The state of one chip instance (spec/10_state.md R20-R47), the reasons a step can stop,
memory as a canonical list of cells, and the machine right after reset. -/

namespace Sys2Proof.Machine

/-- The observable engine states (R41; Fetching and Executing exist only inside one atomic step, C6). -/
inductive Engine where
  | ready
  | halted
  | faulted
  deriving DecidableEq, Repr

/-- The context of `UndefinedInstruction(opcode, pc, cycles)` (R42): the opcode value, the address it was
fetched from, and the cycle count at the start of the faulting step. -/
structure FaultRecord where
  opcode : Byte
  pc : Word
  cycles : Nat
  deriving DecidableEq, Repr

/-- Why a step does not answer a next state. The one fault of the core, UndefinedInstruction, is no member:
the spec gives its effect (R260), so the step that meets it answers a NEXT state whose engine is `faulted`. DEDUCED
(log entry 3), safe. -/
inductive Fault where
  /-- Raised by `step` alone, when the engine is `halted`: step is not enabled until reset (R41, U9). Safe: the
  model has no run where the spec has none. -/
  | stepWhileHalted
  /-- Raised by `step` alone, when the engine is `faulted`: step is not enabled until reset (R41, R260, U9); it
  carries the context of the fault, as the spec has it reported to the caller (R263). Safe, for the same reason. -/
  | stepWhileFaulted (record : Option FaultRecord)
  deriving DecidableEq, Repr

/-- Why a call has no meaning in the model. -/
inductive Refusal where
  /-- An instruction rejected by name in `exec`. No arm of this model answers it. Safe. -/
  | notModelled (mnemonic : String)
  /-- Raised by the host calls `setFlag` and `isFlagSet` alone, for a bit outside 0..7, which the spec has a model
  refuse (R28, D31, U8). No instruction raises it. Safe. -/
  | flagBitOutOfRange (bit : Nat)
  /-- Raised by a session's step before its load, which the spec has a model refuse (R84, U11). Safe. -/
  | stepBeforeLoad
  /-- Raised by a session's second load, and so by any load after a step: load is a one-shot operation that is complete
  before any step (R84). Safe. -/
  | loadRepeated
  deriving DecidableEq, Repr

/-- Memory: cells in rising address order, none listed that holds what an unlisted address reads as. -/
abbrev Memory := List Host.Cell

/-- What an address that is not listed reads as. DESIGN CHOICE (log entry 1), unsafe: the spec leaves the
initial contents of memory open (R46, R303, U4); zero is the convention of its own test vectors. -/
def Memory.unlisted : Byte := 0x00

/-- The canonical form from address `low` on. -/
def Memory.wfFrom (low : Nat) : Memory → Bool
  | [] => true
  | (a, v) :: m => decide (low ≤ a) && decide (a < 65536) && decide (v ≠ Memory.unlisted) && Memory.wfFrom (a + 1) m

/-- The canonical form: addresses strictly rising and below 65536 (R60), and no cell holds the unlisted value. -/
def Memory.wf (m : Memory) : Bool := Memory.wfFrom 0 m

/-- The state of one chip instance, all of R20. -/
structure State where
  /-- The accumulator (R21). -/
  a : Byte
  /-- The index register `X` (R22). -/
  x : Byte
  /-- The index register `Y` (R22). -/
  y : Byte
  /-- The stack pointer; the stack is $0100-$01FF (R25). -/
  sp : Byte
  /-- The program counter; between steps, the address of the next opcode (R24). -/
  pc : Word
  /-- The packed status byte, bit 7 to bit 0 `N V _ B D I Z C` (R26). -/
  p : Byte
  /-- The 65536 bytes of memory (R60). -/
  mem : Memory
  /-- The engine state (R41). -/
  engine : Engine
  /-- The context of the fault that put the engine in `faulted`, else none (R42). -/
  fault : Option FaultRecord
  /-- The accumulated cycle count, unbounded (R43). -/
  cycles : Nat
  /-- The NMI latch (R44). -/
  nmiPending : Bool
  /-- The IRQ input level, driven by the host (R44). -/
  irqLine : Bool
  /-- The host's halt request (R45). -/
  haltRequest : Bool
  deriving DecidableEq, Repr

/-- The machine right after reset (R46, R300) of an instance constructed as R303 says: `SP` = $FD, `P` = $24,
`A = X = Y = 0`, the engine ready, no fault, `cycles` 0 and no input asserted. Nothing is loaded, so memory
lists nothing and the reset vector reads $0000 (log entries 1 and 2). -/
def State.reset : State where
  a := 0x00
  x := 0x00
  y := 0x00
  sp := Config.resetSP
  pc := 0x0000
  p := Config.resetP
  mem := []
  engine := .ready
  fault := none
  cycles := 0
  nmiPending := false
  irqLine := false
  haltRequest := false

/-- What a step, an instruction or a host call answers. -/
abbrev Out := Host.Outcome State Fault Refusal

end Sys2Proof.Machine
end

