-- ==== Sys2Proof/Machine/Flags.lean ====
section
/-! DEFINITION. The status byte `P`, its bits, and every flag computation (spec/10_state.md R26-R38;
the ALU of spec/42_arithmetic.md and spec/43_logic_shift.md). An ALU function answers the new `P` and the result. -/

namespace Sys2Proof.Machine

/-- The eight flags of `P` (R26). -/
inductive Flag where
  | c | z | i | d | b | u | v | n
  deriving DecidableEq, Repr

/-- The bit number of a flag (R26). -/
def Flag.bit : Flag → Nat
  | .c => 0
  | .z => 1
  | .i => 2
  | .d => 3
  | .b => 4
  | .u => 5
  | .v => 6
  | .n => 7

/-- `(P & ~(1 << bit)) | (value << bit)` (R28). -/
def setBit (p : Byte) (bit : Nat) (value : Bool) : Byte :=
  (p &&& ~~~((1 : Byte) <<< bit)) ||| ((if value then (1 : Byte) else 0) <<< bit)

/-- `P[bit] = 1` (R28). -/
def testBit (p : Byte) (bit : Nat) : Bool := p.getLsbD bit

/-- Read one flag, `P.f` (R9). -/
def getFlag (p : Byte) (f : Flag) : Bool := testBit p f.bit

/-- Write one flag, `P.f <- v` (R9, R28). -/
def putFlag (p : Byte) (f : Flag) (v : Bool) : Byte := setBit p f.bit v

/-- `setZN(v)`: `P.Z <- (v = 0)`; `P.N <- v[7]` (R29). -/
def setZN (v : Byte) (p : Byte) : Byte := putFlag (putFlag p .z (v == 0x00)) .n (v.getLsbD 7)

/-- `PushedP(brk)`, the status byte as pushed (R37). -/
def pushedP (brk : Bool) (p : Byte) : Byte :=
  if brk then p ||| 0x20 ||| 0x10 else (p ||| 0x20) &&& ~~~(0x10 : Byte)

/-- The status byte as pulled by PLP and RTI: `b | $20` (R38). -/
def pulledP (b : Byte) : Byte := b ||| 0x20

/-- ADC: `t <- A + M + P.C`; C, V, Z, N; the result is `t mod 256`. The decimal flag is not read (R170, R182). -/
def aluAdc (p a m : Byte) : Byte × Byte :=
  let t := a.toNat + m.toNat + (getFlag p .c).toNat
  let r := BitVec.ofNat 8 t
  let p1 := putFlag p .c (decide (t > 255))
  let p2 := putFlag p1 .v (((a ^^^ r) &&& (m ^^^ r) &&& 0x80) != 0x00)
  (setZN r p2, r)

/-- SBC: `t <- A - M - (1 - P.C)`; C is "no borrow"; C, V, Z, N; the result is `t mod 256` (R171, R182). -/
def aluSbc (p a m : Byte) : Byte × Byte :=
  let t : Int := (a.toNat : Int) - (m.toNat : Int) - (1 - ((getFlag p .c).toNat : Int))
  let r := BitVec.ofInt 8 t
  let p1 := putFlag p .c (decide (t ≥ 0))
  let p2 := putFlag p1 .v (((a ^^^ m) &&& (a ^^^ r) &&& 0x80) != 0x00)
  (setZN r p2, r)

/-- CMP, CPX, CPY: register minus operand without storing; C, Z, N (R172-R174). -/
def aluCompare (p r m : Byte) : Byte :=
  let d := r - m
  putFlag (putFlag (putFlag p .c (decide (m.toNat ≤ r.toNat))) .z (r == m)) .n (d.getLsbD 7)

/-- BIT: Z from `A & M`, N from `M[7]`, V from `M[6]` (R193). -/
def aluBit (p a m : Byte) : Byte :=
  putFlag (putFlag (putFlag p .z ((a &&& m) == 0x00)) .n (m.getLsbD 7)) .v (m.getLsbD 6)

/-- A result that sets Z and N only (R190-R192, R175-R180 and the loads). -/
def aluZN (p r : Byte) : Byte × Byte := (setZN r p, r)

/-- ASL: C is bit 7 of the operand, 0 comes in at bit 0 (R194). -/
def aluAsl (p v : Byte) : Byte × Byte := aluZN (putFlag p .c (v.getLsbD 7)) (v <<< 1)

/-- LSR: C is bit 0 of the operand, 0 comes in at bit 7 (R195). -/
def aluLsr (p v : Byte) : Byte × Byte := aluZN (putFlag p .c (v.getLsbD 0)) (v >>> 1)

/-- ROL: C is bit 7 of the operand, the prior C comes in at bit 0 (R196). -/
def aluRol (p v : Byte) : Byte × Byte :=
  aluZN (putFlag p .c (v.getLsbD 7)) ((v <<< 1) ||| (if getFlag p .c then (1 : Byte) else 0))

/-- ROR: C is bit 0 of the operand, the prior C comes in at bit 7 (R197). -/
def aluRor (p v : Byte) : Byte × Byte :=
  aluZN (putFlag p .c (v.getLsbD 0)) ((v >>> 1) ||| ((if getFlag p .c then (1 : Byte) else 0) <<< 7))

/-- INC: `(M + 1) mod 256`; Z, N (R175). -/
def aluInc (p v : Byte) : Byte × Byte := aluZN p (v + 1)

/-- DEC: `(M - 1) mod 256`; Z, N (R176). -/
def aluDec (p v : Byte) : Byte × Byte := aluZN p (v - 1)

end Sys2Proof.Machine
end

