-- ==== Sys2Proof/Machine/Ops.lean ====
section
/-! DEFINITION. The named operations over registers and memory: one update per field of State, the bus
(spec/20_memory.md R60-R66), the stack (R67-R70), taking an interrupt or BRK (spec/60_exceptions.md R267) and
returning from one (R271), the undefined-instruction fault (R260) and the halt (spec/10_state.md R45). -/

namespace Sys2Proof.Machine

/-- The default of `BrkReturnOffset` (R7, R222): the return address BRK pushes, counted from the BRK opcode's address. -/
def brkReturnOffset : Word := 2

/-- The cycles of an IRQ or NMI service step (R267, R320). -/
def interruptCycles : Nat := 7

/-! One update per field. -/

/-- `A <- v`. -/
def State.setA (s : State) (v : Byte) : State := { s with a := v }
/-- `X <- v`. -/
def State.setX (s : State) (v : Byte) : State := { s with x := v }
/-- `Y <- v`. -/
def State.setY (s : State) (v : Byte) : State := { s with y := v }
/-- `SP <- v`. -/
def State.setSP (s : State) (v : Byte) : State := { s with sp := v }
/-- `PC <- v`. -/
def State.setPC (s : State) (v : Word) : State := { s with pc := v }
/-- `P <- v`. -/
def State.setP (s : State) (v : Byte) : State := { s with p := v }
/-- Memory as a whole. -/
def State.setMem (s : State) (m : Memory) : State := { s with mem := m }
/-- `engine <- e`. -/
def State.setEngine (s : State) (e : Engine) : State := { s with engine := e }
/-- `fault <- r`. -/
def State.setFault (s : State) (r : Option FaultRecord) : State := { s with fault := r }
/-- `cycles <- cycles + n` (R320). -/
def State.addCycles (s : State) (n : Nat) : State := { s with cycles := s.cycles + n }
/-- `nmiPending <- b`. -/
def State.setNmiPending (s : State) (b : Bool) : State := { s with nmiPending := b }
/-- `irqLine <- b`. -/
def State.setIrqLine (s : State) (b : Bool) : State := { s with irqLine := b }
/-- `haltRequest <- b`. -/
def State.setHaltRequest (s : State) (b : Bool) : State := { s with haltRequest := b }

/-! Memory as a list of cells. -/

/-- The byte at address `a`: the first cell listed for it, else what an unlisted address reads as. -/
def Memory.read : Memory → Nat → Byte
  | [], _ => Memory.unlisted
  | (b, v) :: m, a => if a = b then v else Memory.read m a

/-- The memory without its cells for address `a`. -/
def Memory.remove : Memory → Nat → Memory
  | [], _ => []
  | (b, v) :: m, a => if a = b then Memory.remove m a else (b, v) :: Memory.remove m a

/-- The cell `(a, v)` put before the first cell of a higher address. -/
def Memory.insert : Memory → Nat → Byte → Memory
  | [], a, v => [(a, v)]
  | (b, w) :: m, a, v => if a < b then (a, v) :: (b, w) :: m else (b, w) :: Memory.insert m a v

/-- Address `a` holds `v` afterwards; the canonical form is kept, so writing the unlisted value unlists `a`. -/
def Memory.write (m : Memory) (a : Nat) (v : Byte) : Memory :=
  if v = Memory.unlisted then Memory.remove m a else Memory.insert (Memory.remove m a) a v

/-! The bus. An address is a `Word`, so it is reduced mod 65536 before it reaches the bus (R61). -/

/-- `read8` (R62): changes no state. -/
def State.read8 (s : State) (addr : Word) : Byte := Memory.read s.mem addr.toNat

/-- `write8` (R63): changes that byte and nothing else. -/
def State.write8 (s : State) (addr : Word) (v : Byte) : State := s.setMem (Memory.write s.mem addr.toNat v)

/-- `read16` (R64): low byte at `addr`, high byte at `addr + 1` mod 65536. -/
def State.read16 (s : State) (addr : Word) : Word := wordOf (s.read8 addr) (s.read8 (addr + 1))

/-- `ReadPtrBug` (R65): the high byte is read from the same page. -/
def State.readPtrBug (s : State) (ptr : Word) : Word :=
  wordOf (s.read8 ptr) (s.read8 ((ptr &&& 0xFF00) ||| ((ptr + 1) &&& 0x00FF)))

/-- `ReadPtrZP` (R66): both bytes are read from the zero page. -/
def State.readPtrZP (s : State) (zp : Byte) : Word := wordOf (s.read8 (zext16 zp)) (s.read8 (zext16 (zp + 1)))

/-! The stack. -/

/-- `$0100 | SP` (R25, R67). -/
def stackAddr (sp : Byte) : Word := Config.stackPage ||| zext16 sp

/-- `Push(v)` (R68): write, then decrement. -/
def State.push (s : State) (v : Byte) : State := (s.write8 (stackAddr s.sp) v).setSP (s.sp - 1)

/-- `Pull()` (R69): increment, then read. -/
def State.pull (s : State) : Byte × State := (s.read8 (stackAddr (s.sp + 1)), s.setSP (s.sp + 1))

/-- An address is pushed high byte first (R70). -/
def State.pushWord (s : State) (w : Word) : State := (s.push (hiByte w)).push (loByte w)

/-- An address is pulled low byte first (R70). -/
def State.pullWord (s : State) : Word × State :=
  let lo := s.pull
  let hi := lo.2.pull
  (wordOf lo.1 hi.1, hi.2)

/-! The program counter. -/

/-- `PC <- (PC + n) mod 65536` (R24). -/
def State.advance (s : State) (n : Nat) : State := s.setPC (s.pc + BitVec.ofNat 16 n)

/-! Exceptions. -/

/-- Who raises the interrupt sequence (R261, R267). -/
inductive InterruptKind where
  | brk
  | irq
  | nmi
  deriving DecidableEq, Repr

/-- The vector of each kind: NMI $FFFA, IRQ and BRK $FFFE (R261, R270). -/
def interruptVector : InterruptKind → Word
  | .nmi => Config.nmiVector
  | .brk => Config.irqVector
  | .irq => Config.irqVector

/-- `InterruptSequence(kind)` (R267, R269): push `PC` high, `PC` low and the status (bit 4 set for BRK alone),
set `P.I`, load `PC` from the vector. The stored `P.B` and `P.D` do not change. -/
def State.takeInterrupt (s : State) (kind : InterruptKind) : State :=
  let s1 := (s.pushWord s.pc).push (pushedP (kind == .brk) s.p)
  let s2 := s1.setP (putFlag s1.p .i true)
  s2.setPC (s2.read16 (interruptVector kind))

/-- The return (R223, R271): pull the status with bit 5 forced to 1, then `PC` low and high, with no `+ 1`. -/
def State.returnFromInterrupt (s : State) : State :=
  let st := s.pull
  let s1 := st.2.setP (pulledP st.1)
  let ret := s1.pullWord
  ret.2.setPC ret.1

/-- An NMI service step (R92): clear the latch, take the sequence, account 7 cycles. -/
def State.serviceNmi (s : State) : State := ((s.setNmiPending false).takeInterrupt .nmi).addCycles interruptCycles

/-- An IRQ service step (R92): take the sequence, account 7 cycles; the line stays as the host drives it. -/
def State.serviceIrq (s : State) : State := (s.takeInterrupt .irq).addCycles interruptCycles

/-- UndefinedInstruction (R260): the engine is faulted, the context recorded, nothing else changes. -/
def State.enterFaulted (s : State) (op : Byte) : State :=
  (s.setEngine .faulted).setFault (some ⟨op, s.pc, s.cycles⟩)

/-- The host's halt request is met (R45): the engine is halted, the request cleared, nothing else changes. -/
def State.enterHalted (s : State) : State := (s.setEngine .halted).setHaltRequest false

end Sys2Proof.Machine
end

