-- ==== Sys2Proof/Machine/Operands.lean ====
section
/-! DEFINITION. Every operand form: the addressing-mode resolver (spec/40_addressing_modes.md R120-R137), the
operand value `M`, the operand location `Store`, and the shapes instructions share (read, store, read-modify-write,
implied, branch), each with the cycle accounting of spec/70_reset_and_hazards.md R320.
A resolver reads the state as it is before the instruction, whose `PC` is the opcode's address `pc0`. -/

namespace Sys2Proof.Machine

/-- The modes that resolve to an address (R120), each with its operand bytes: one byte or, for the three absolute
modes and Indirect, the 16-bit operand. Implicit, Accumulator and Immediate yield no address. -/
inductive AddrMode where
  | zeroPage (b1 : Byte)
  | zeroPageX (b1 : Byte)
  | zeroPageY (b1 : Byte)
  | relative (d : Byte)
  | absolute (w : Word)
  | absoluteX (w : Word)
  | absoluteY (w : Word)
  | indirect (w : Word)
  | indexedIndirect (zp : Byte)
  | indirectIndexed (zp : Byte)
  deriving DecidableEq, Repr

/-- `operandBytes(mode)` (R120). -/
def AddrMode.bytes : AddrMode → Nat
  | .zeroPage _ => 1
  | .zeroPageX _ => 1
  | .zeroPageY _ => 1
  | .relative _ => 1
  | .absolute _ => 2
  | .absoluteX _ => 2
  | .absoluteY _ => 2
  | .indirect _ => 2
  | .indexedIndirect _ => 1
  | .indirectIndexed _ => 1

/-- What the resolver yields: the effective address and the page-cross report (R121). -/
structure Resolved where
  ea : Word
  pageCrossed : Bool
  deriving DecidableEq, Repr

/-- An indexed address: `(base + index) mod 65536`, crossing when its page is not the base's (R130, R131, R134). -/
def indexed (base : Word) (index : Byte) : Resolved :=
  let ea := base + zext16 index
  ⟨ea, pagesDiffer ea base⟩

/-- `Resolve(mode)` (R121, R125-R134). -/
def resolve (m : AddrMode) (s : State) : Resolved :=
  match m with
  | .zeroPage b1 => ⟨zext16 b1, false⟩
  | .zeroPageX b1 => ⟨zext16 (b1 + s.x), false⟩
  | .zeroPageY b1 => ⟨zext16 (b1 + s.y), false⟩
  | .relative d =>
    let nextPC := s.pc + 2
    let target := nextPC + sext16 d
    ⟨target, pagesDiffer target nextPC⟩
  | .absolute w => ⟨w, false⟩
  | .absoluteX w => indexed w s.x
  | .absoluteY w => indexed w s.y
  | .indirect w => ⟨s.readPtrBug w, false⟩
  | .indexedIndirect zp => ⟨s.readPtrZP (zp + s.x), false⟩
  | .indirectIndexed zp => indexed (s.readPtrZP zp) s.y

/-- An operand that is read: the immediate byte, or the byte at a resolved address (R121). -/
inductive Operand where
  | immediate (v : Byte)
  | memory (m : AddrMode)
  deriving DecidableEq, Repr

/-- Operand bytes after the opcode (R120). -/
def Operand.bytes : Operand → Nat
  | .immediate _ => 1
  | .memory m => m.bytes

/-- `M` (R121). -/
def Operand.value (o : Operand) (s : State) : Byte :=
  match o with
  | .immediate v => v
  | .memory m => s.read8 (resolve m s).ea

/-- `pageCrossed`; false for Immediate (R124). -/
def Operand.crossed (o : Operand) (s : State) : Bool :=
  match o with
  | .immediate _ => false
  | .memory m => (resolve m s).pageCrossed

/-- An operand that is read and written back: `A` in Accumulator mode, or the byte at a resolved address (R121). -/
inductive Location where
  | accumulator
  | memory (m : AddrMode)
  deriving DecidableEq, Repr

/-- Operand bytes after the opcode (R120). -/
def Location.bytes : Location → Nat
  | .accumulator => 0
  | .memory m => m.bytes

/-- `M` (R121, R123). -/
def Location.value (l : Location) (s : State) : Byte :=
  match l with
  | .accumulator => s.a
  | .memory m => s.read8 (resolve m s).ea

/-- `pageCrossed`; false for Accumulator (R123). -/
def Location.crossed (l : Location) (s : State) : Bool :=
  match l with
  | .accumulator => false
  | .memory m => (resolve m s).pageCrossed

/-- `base + (if pageCrossExtra and pageCrossed then 1 else 0)` (R136, R320). -/
def cost (base : Nat) (extra crossed : Bool) : Nat := base + (if extra && crossed then 1 else 0)

/-- An instruction with no operand bytes (R122): `PC` moves past it, the handler runs, its cycles are accounted. -/
def implied (base : Nat) (handler : State → State) (s : State) : Out :=
  .next ((handler (s.advance 1)).addCycles base)

/-- An instruction that reads `M` (R121): its bytes and the operand are read before anything is written (R78). -/
def reading (o : Operand) (base : Nat) (extra : Bool) (handler : Byte → State → State) (s : State) : Out :=
  .next ((handler (o.value s) (s.advance (1 + o.bytes))).addCycles (cost base extra (o.crossed s)))

/-- A store `MemWrite(EA, 1, v)`: the address is not read first (R73, R153). -/
def storing (m : AddrMode) (base : Nat) (extra : Bool) (v : Byte) (s : State) : Out :=
  .next (((s.advance (1 + m.bytes)).write8 (resolve m s).ea v).addCycles (cost base extra (resolve m s).pageCrossed))

/-- `Store(v)` (R121): to `A`, or to the address resolved in the state `before` the instruction. -/
def Location.store (l : Location) (before : State) (v : Byte) (s : State) : State :=
  match l with
  | .accumulator => s.setA v
  | .memory m => s.write8 (resolve m before).ea v

/-- A read-modify-write: one read and one write of the operand (R73); `alu` answers the new `P` and the result. -/
def modifying (l : Location) (base : Nat) (extra : Bool) (alu : Byte → Byte → Byte × Byte) (s : State) : Out :=
  let out := alu s.p (l.value s)
  .next (((l.store s out.2 (s.advance (1 + l.bytes))).setP out.1).addCycles (cost base extra (l.crossed s)))

/-- A conditional branch (R210): taken when flag `f` is `want`; 2 cycles, 1 more if taken, 1 more again if the target
lies in another page than the next instruction. -/
def branching (f : Flag) (want : Bool) (d : Byte) (base : Nat) (s : State) : Out :=
  let r := resolve (.relative d) s
  if getFlag s.p f == want then
    .next ((s.setPC r.ea).addCycles (base + 1 + (if r.pageCrossed then 1 else 0)))
  else
    .next ((s.advance 2).addCycles base)

end Sys2Proof.Machine
end

