-- ==== Sys2Proof/Machine/Arithmetic.lean ====
section
/-! DEFINITION. Arithmetic, compare, increment and decrement (spec/42_arithmetic.md R170-R182).
One definition for each row of the opcode table; a row's cycles and page-cross flag are the table's (R321). -/

namespace Sys2Proof.Machine

/-- ADC: `A` and C, V, Z, N (R170). -/
def handleAdc (m : Byte) (s : State) : State := (s.setA (aluAdc s.p s.a m).2).setP (aluAdc s.p s.a m).1

/-- SBC: `A` and C, V, Z, N (R171). -/
def handleSbc (m : Byte) (s : State) : State := (s.setA (aluSbc s.p s.a m).2).setP (aluSbc s.p s.a m).1

/-- CMP: C, Z, N from `A - M`; `A` is not written (R172). -/
def handleCmp (m : Byte) (s : State) : State := s.setP (aluCompare s.p s.a m)

/-- CPX: C, Z, N from `X - M` (R173). -/
def handleCpx (m : Byte) (s : State) : State := s.setP (aluCompare s.p s.x m)

/-- CPY: C, Z, N from `Y - M` (R174). -/
def handleCpy (m : Byte) (s : State) : State := s.setP (aluCompare s.p s.y m)

/-- ADC, $61, IndexedIndirect: add with carry (R170). -/
def execAdcIndX (zp : Byte) (s : State) : Out := reading (.memory (.indexedIndirect zp)) 6 false handleAdc s

/-- ADC, $65, ZeroPage: add with carry (R170). -/
def execAdcZp (b1 : Byte) (s : State) : Out := reading (.memory (.zeroPage b1)) 3 false handleAdc s

/-- ADC, $69, Immediate: add with carry (R170). -/
def execAdcImm (v : Byte) (s : State) : Out := reading (.immediate v) 2 false handleAdc s

/-- ADC, $6D, Absolute: add with carry (R170). -/
def execAdcAbs (w : Word) (s : State) : Out := reading (.memory (.absolute w)) 4 false handleAdc s

/-- ADC, $71, IndirectIndexed: add with carry (R170). -/
def execAdcIndY (zp : Byte) (s : State) : Out := reading (.memory (.indirectIndexed zp)) 5 true handleAdc s

/-- ADC, $75, ZeroPageX: add with carry (R170). -/
def execAdcZpX (b1 : Byte) (s : State) : Out := reading (.memory (.zeroPageX b1)) 4 false handleAdc s

/-- ADC, $79, AbsoluteY: add with carry (R170). -/
def execAdcAbsY (w : Word) (s : State) : Out := reading (.memory (.absoluteY w)) 4 true handleAdc s

/-- ADC, $7D, AbsoluteX: add with carry (R170). -/
def execAdcAbsX (w : Word) (s : State) : Out := reading (.memory (.absoluteX w)) 4 true handleAdc s

/-- SBC, $E1, IndexedIndirect: subtract with borrow (R171). -/
def execSbcIndX (zp : Byte) (s : State) : Out := reading (.memory (.indexedIndirect zp)) 6 false handleSbc s

/-- SBC, $E5, ZeroPage: subtract with borrow (R171). -/
def execSbcZp (b1 : Byte) (s : State) : Out := reading (.memory (.zeroPage b1)) 3 false handleSbc s

/-- SBC, $E9, Immediate: subtract with borrow (R171). -/
def execSbcImm (v : Byte) (s : State) : Out := reading (.immediate v) 2 false handleSbc s

/-- SBC, $ED, Absolute: subtract with borrow (R171). -/
def execSbcAbs (w : Word) (s : State) : Out := reading (.memory (.absolute w)) 4 false handleSbc s

/-- SBC, $F1, IndirectIndexed: subtract with borrow (R171). -/
def execSbcIndY (zp : Byte) (s : State) : Out := reading (.memory (.indirectIndexed zp)) 5 true handleSbc s

/-- SBC, $F5, ZeroPageX: subtract with borrow (R171). -/
def execSbcZpX (b1 : Byte) (s : State) : Out := reading (.memory (.zeroPageX b1)) 4 false handleSbc s

/-- SBC, $F9, AbsoluteY: subtract with borrow (R171). -/
def execSbcAbsY (w : Word) (s : State) : Out := reading (.memory (.absoluteY w)) 4 true handleSbc s

/-- SBC, $FD, AbsoluteX: subtract with borrow (R171). -/
def execSbcAbsX (w : Word) (s : State) : Out := reading (.memory (.absoluteX w)) 4 true handleSbc s

/-- CMP, $C1, IndexedIndirect: compare with A (R172). -/
def execCmpIndX (zp : Byte) (s : State) : Out := reading (.memory (.indexedIndirect zp)) 6 false handleCmp s

/-- CMP, $C5, ZeroPage: compare with A (R172). -/
def execCmpZp (b1 : Byte) (s : State) : Out := reading (.memory (.zeroPage b1)) 3 false handleCmp s

/-- CMP, $C9, Immediate: compare with A (R172). -/
def execCmpImm (v : Byte) (s : State) : Out := reading (.immediate v) 2 false handleCmp s

/-- CMP, $CD, Absolute: compare with A (R172). -/
def execCmpAbs (w : Word) (s : State) : Out := reading (.memory (.absolute w)) 4 false handleCmp s

/-- CMP, $D1, IndirectIndexed: compare with A (R172). -/
def execCmpIndY (zp : Byte) (s : State) : Out := reading (.memory (.indirectIndexed zp)) 5 true handleCmp s

/-- CMP, $D5, ZeroPageX: compare with A (R172). -/
def execCmpZpX (b1 : Byte) (s : State) : Out := reading (.memory (.zeroPageX b1)) 4 false handleCmp s

/-- CMP, $D9, AbsoluteY: compare with A (R172). -/
def execCmpAbsY (w : Word) (s : State) : Out := reading (.memory (.absoluteY w)) 4 true handleCmp s

/-- CMP, $DD, AbsoluteX: compare with A (R172). -/
def execCmpAbsX (w : Word) (s : State) : Out := reading (.memory (.absoluteX w)) 4 true handleCmp s

/-- CPX, $E0, Immediate: compare with X (R173). -/
def execCpxImm (v : Byte) (s : State) : Out := reading (.immediate v) 2 false handleCpx s

/-- CPX, $E4, ZeroPage: compare with X (R173). -/
def execCpxZp (b1 : Byte) (s : State) : Out := reading (.memory (.zeroPage b1)) 3 false handleCpx s

/-- CPX, $EC, Absolute: compare with X (R173). -/
def execCpxAbs (w : Word) (s : State) : Out := reading (.memory (.absolute w)) 4 false handleCpx s

/-- CPY, $C0, Immediate: compare with Y (R174). -/
def execCpyImm (v : Byte) (s : State) : Out := reading (.immediate v) 2 false handleCpy s

/-- CPY, $C4, ZeroPage: compare with Y (R174). -/
def execCpyZp (b1 : Byte) (s : State) : Out := reading (.memory (.zeroPage b1)) 3 false handleCpy s

/-- CPY, $CC, Absolute: compare with Y (R174). -/
def execCpyAbs (w : Word) (s : State) : Out := reading (.memory (.absolute w)) 4 false handleCpy s

/-- INC, $E6, ZeroPage: increment memory (R175). -/
def execIncZp (b1 : Byte) (s : State) : Out := modifying (.memory (.zeroPage b1)) 5 false aluInc s

/-- INC, $EE, Absolute: increment memory (R175). -/
def execIncAbs (w : Word) (s : State) : Out := modifying (.memory (.absolute w)) 6 false aluInc s

/-- INC, $F6, ZeroPageX: increment memory (R175). -/
def execIncZpX (b1 : Byte) (s : State) : Out := modifying (.memory (.zeroPageX b1)) 6 false aluInc s

/-- INC, $FE, AbsoluteX: increment memory (R175). -/
def execIncAbsX (w : Word) (s : State) : Out := modifying (.memory (.absoluteX w)) 7 false aluInc s

/-- DEC, $C6, ZeroPage: decrement memory (R176). -/
def execDecZp (b1 : Byte) (s : State) : Out := modifying (.memory (.zeroPage b1)) 5 false aluDec s

/-- DEC, $CE, Absolute: decrement memory (R176). -/
def execDecAbs (w : Word) (s : State) : Out := modifying (.memory (.absolute w)) 6 false aluDec s

/-- DEC, $D6, ZeroPageX: decrement memory (R176). -/
def execDecZpX (b1 : Byte) (s : State) : Out := modifying (.memory (.zeroPageX b1)) 6 false aluDec s

/-- DEC, $DE, AbsoluteX: decrement memory (R176). -/
def execDecAbsX (w : Word) (s : State) : Out := modifying (.memory (.absoluteX w)) 7 false aluDec s

/-- INX: increment X (R177). -/
def handleInx (t : State) : State := (t.setX (t.x + 1)).setP (setZN (t.x + 1) t.p)

/-- INX, $E8, Implicit: increment X (R177). -/
def execInx (s : State) : Out := implied 2 handleInx s

/-- INY: increment Y (R178). -/
def handleIny (t : State) : State := (t.setY (t.y + 1)).setP (setZN (t.y + 1) t.p)

/-- INY, $C8, Implicit: increment Y (R178). -/
def execIny (s : State) : Out := implied 2 handleIny s

/-- DEX: decrement X (R179). -/
def handleDex (t : State) : State := (t.setX (t.x - 1)).setP (setZN (t.x - 1) t.p)

/-- DEX, $CA, Implicit: decrement X (R179). -/
def execDex (s : State) : Out := implied 2 handleDex s

/-- DEY: decrement Y (R180). -/
def handleDey (t : State) : State := (t.setY (t.y - 1)).setP (setZN (t.y - 1) t.p)

/-- DEY, $88, Implicit: decrement Y (R180). -/
def execDey (s : State) : Out := implied 2 handleDey s

end Sys2Proof.Machine
end

