-- ==== Sys2Proof/Machine/Control.lean ====
section
/-! DEFINITION. Branches, jumps, calls, returns and BRK (spec/44_control_flow.md R210-R223).
One definition for each row of the opcode table; a row's cycles and page-cross flag are the table's (R321). -/

namespace Sys2Proof.Machine

/-- BPL, $10, Relative: branch if N = 0 (R211). -/
def execBpl (d : Byte) (s : State) : Out := branching .n false d 2 s

/-- BMI, $30, Relative: branch if N = 1 (R212). -/
def execBmi (d : Byte) (s : State) : Out := branching .n true d 2 s

/-- BVC, $50, Relative: branch if V = 0 (R213). -/
def execBvc (d : Byte) (s : State) : Out := branching .v false d 2 s

/-- BVS, $70, Relative: branch if V = 1 (R214). -/
def execBvs (d : Byte) (s : State) : Out := branching .v true d 2 s

/-- BCC, $90, Relative: branch if C = 0 (R215). -/
def execBcc (d : Byte) (s : State) : Out := branching .c false d 2 s

/-- BCS, $B0, Relative: branch if C = 1 (R216). -/
def execBcs (d : Byte) (s : State) : Out := branching .c true d 2 s

/-- BNE, $D0, Relative: branch if Z = 0 (R217). -/
def execBne (d : Byte) (s : State) : Out := branching .z false d 2 s

/-- BEQ, $F0, Relative: branch if Z = 1 (R218). -/
def execBeq (d : Byte) (s : State) : Out := branching .z true d 2 s

/-- JMP, $4C, Absolute: jump (R219). -/
def execJmpAbs (w : Word) (s : State) : Out := .next ((s.setPC (resolve (.absolute w) s).ea).addCycles 3)

/-- JMP, $6C, Indirect: jump (R219). -/
def execJmpInd (w : Word) (s : State) : Out := .next ((s.setPC (resolve (.indirect w) s).ea).addCycles 5)

/-- JSR, $20, Absolute: jump to subroutine (R220). -/
def execJsr (w : Word) (s : State) : Out :=
  let t := s.advance 3
  .next (((t.pushWord (t.pc - 1)).setPC (resolve (.absolute w) s).ea).addCycles 6)

/-- RTS: return from subroutine, + 1 (R221). -/
def handleRts (t : State) : State := t.pullWord.2.setPC (t.pullWord.1 + 1)

/-- RTS, $60, Implicit: return from subroutine, + 1 (R221). -/
def execRts (s : State) : Out := implied 6 handleRts s

/-- BRK with `BrkReturnOffset` as an argument (R7, R222): `PC` moves on by it, and the sequence pushes that `PC`. -/
def execBrkWith (offset : Word) (s : State) : Out :=
  .next (((s.setPC (s.pc + offset)).takeInterrupt .brk).addCycles 7)

/-- BRK, $00, Implicit: software interrupt (R222). -/
def execBrk (s : State) : Out := execBrkWith brkReturnOffset s

/-- RTI, $40, Implicit: return from interrupt (R223). -/
def execRti (s : State) : Out := implied 6 State.returnFromInterrupt s

end Sys2Proof.Machine
end

