-- ==== Sys2Proof/Machine/LoadStore.lean ====
section
/-! DEFINITION. Loads, stores and register transfers (spec/41_load_store_transfer.md R150-R161).
One definition for each row of the opcode table; a row's cycles and page-cross flag are the table's (R321). -/

namespace Sys2Proof.Machine

/-- LDA: `A <- M; setZN(A)` (R150). -/
def handleLda (m : Byte) (s : State) : State := (s.setA m).setP (setZN m s.p)

/-- LDX: `X <- M; setZN(X)` (R151). -/
def handleLdx (m : Byte) (s : State) : State := (s.setX m).setP (setZN m s.p)

/-- LDY: `Y <- M; setZN(Y)` (R152). -/
def handleLdy (m : Byte) (s : State) : State := (s.setY m).setP (setZN m s.p)

/-- LDA, $A1, IndexedIndirect: load accumulator (R150). -/
def execLdaIndX (zp : Byte) (s : State) : Out := reading (.memory (.indexedIndirect zp)) 6 false handleLda s

/-- LDA, $A5, ZeroPage: load accumulator (R150). -/
def execLdaZp (b1 : Byte) (s : State) : Out := reading (.memory (.zeroPage b1)) 3 false handleLda s

/-- LDA, $A9, Immediate: load accumulator (R150). -/
def execLdaImm (v : Byte) (s : State) : Out := reading (.immediate v) 2 false handleLda s

/-- LDA, $AD, Absolute: load accumulator (R150). -/
def execLdaAbs (w : Word) (s : State) : Out := reading (.memory (.absolute w)) 4 false handleLda s

/-- LDA, $B1, IndirectIndexed: load accumulator (R150). -/
def execLdaIndY (zp : Byte) (s : State) : Out := reading (.memory (.indirectIndexed zp)) 5 true handleLda s

/-- LDA, $B5, ZeroPageX: load accumulator (R150). -/
def execLdaZpX (b1 : Byte) (s : State) : Out := reading (.memory (.zeroPageX b1)) 4 false handleLda s

/-- LDA, $B9, AbsoluteY: load accumulator (R150). -/
def execLdaAbsY (w : Word) (s : State) : Out := reading (.memory (.absoluteY w)) 4 true handleLda s

/-- LDA, $BD, AbsoluteX: load accumulator (R150). -/
def execLdaAbsX (w : Word) (s : State) : Out := reading (.memory (.absoluteX w)) 4 true handleLda s

/-- LDX, $A2, Immediate: load X (R151). -/
def execLdxImm (v : Byte) (s : State) : Out := reading (.immediate v) 2 false handleLdx s

/-- LDX, $A6, ZeroPage: load X (R151). -/
def execLdxZp (b1 : Byte) (s : State) : Out := reading (.memory (.zeroPage b1)) 3 false handleLdx s

/-- LDX, $AE, Absolute: load X (R151). -/
def execLdxAbs (w : Word) (s : State) : Out := reading (.memory (.absolute w)) 4 false handleLdx s

/-- LDX, $B6, ZeroPageY: load X (R151). -/
def execLdxZpY (b1 : Byte) (s : State) : Out := reading (.memory (.zeroPageY b1)) 4 false handleLdx s

/-- LDX, $BE, AbsoluteY: load X (R151). -/
def execLdxAbsY (w : Word) (s : State) : Out := reading (.memory (.absoluteY w)) 4 true handleLdx s

/-- LDY, $A0, Immediate: load Y (R152). -/
def execLdyImm (v : Byte) (s : State) : Out := reading (.immediate v) 2 false handleLdy s

/-- LDY, $A4, ZeroPage: load Y (R152). -/
def execLdyZp (b1 : Byte) (s : State) : Out := reading (.memory (.zeroPage b1)) 3 false handleLdy s

/-- LDY, $AC, Absolute: load Y (R152). -/
def execLdyAbs (w : Word) (s : State) : Out := reading (.memory (.absolute w)) 4 false handleLdy s

/-- LDY, $B4, ZeroPageX: load Y (R152). -/
def execLdyZpX (b1 : Byte) (s : State) : Out := reading (.memory (.zeroPageX b1)) 4 false handleLdy s

/-- LDY, $BC, AbsoluteX: load Y (R152). -/
def execLdyAbsX (w : Word) (s : State) : Out := reading (.memory (.absoluteX w)) 4 true handleLdy s

/-- STA, $81, IndexedIndirect: store accumulator (R153). -/
def execStaIndX (zp : Byte) (s : State) : Out := storing (.indexedIndirect zp) 6 false s.a s

/-- STA, $85, ZeroPage: store accumulator (R153). -/
def execStaZp (b1 : Byte) (s : State) : Out := storing (.zeroPage b1) 3 false s.a s

/-- STA, $8D, Absolute: store accumulator (R153). -/
def execStaAbs (w : Word) (s : State) : Out := storing (.absolute w) 4 false s.a s

/-- STA, $91, IndirectIndexed: store accumulator (R153). -/
def execStaIndY (zp : Byte) (s : State) : Out := storing (.indirectIndexed zp) 6 false s.a s

/-- STA, $95, ZeroPageX: store accumulator (R153). -/
def execStaZpX (b1 : Byte) (s : State) : Out := storing (.zeroPageX b1) 4 false s.a s

/-- STA, $99, AbsoluteY: store accumulator (R153). -/
def execStaAbsY (w : Word) (s : State) : Out := storing (.absoluteY w) 5 false s.a s

/-- STA, $9D, AbsoluteX: store accumulator (R153). -/
def execStaAbsX (w : Word) (s : State) : Out := storing (.absoluteX w) 5 false s.a s

/-- STX, $86, ZeroPage: store X (R154). -/
def execStxZp (b1 : Byte) (s : State) : Out := storing (.zeroPage b1) 3 false s.x s

/-- STX, $8E, Absolute: store X (R154). -/
def execStxAbs (w : Word) (s : State) : Out := storing (.absolute w) 4 false s.x s

/-- STX, $96, ZeroPageY: store X (R154). -/
def execStxZpY (b1 : Byte) (s : State) : Out := storing (.zeroPageY b1) 4 false s.x s

/-- STY, $84, ZeroPage: store Y (R155). -/
def execStyZp (b1 : Byte) (s : State) : Out := storing (.zeroPage b1) 3 false s.y s

/-- STY, $8C, Absolute: store Y (R155). -/
def execStyAbs (w : Word) (s : State) : Out := storing (.absolute w) 4 false s.y s

/-- STY, $94, ZeroPageX: store Y (R155). -/
def execStyZpX (b1 : Byte) (s : State) : Out := storing (.zeroPageX b1) 4 false s.y s

/-- TAX: transfer A to X (R156). -/
def handleTax (t : State) : State := (t.setX t.a).setP (setZN t.a t.p)

/-- TAX, $AA, Implicit: transfer A to X (R156). -/
def execTax (s : State) : Out := implied 2 handleTax s

/-- TAY: transfer A to Y (R157). -/
def handleTay (t : State) : State := (t.setY t.a).setP (setZN t.a t.p)

/-- TAY, $A8, Implicit: transfer A to Y (R157). -/
def execTay (s : State) : Out := implied 2 handleTay s

/-- TXA: transfer X to A (R158). -/
def handleTxa (t : State) : State := (t.setA t.x).setP (setZN t.x t.p)

/-- TXA, $8A, Implicit: transfer X to A (R158). -/
def execTxa (s : State) : Out := implied 2 handleTxa s

/-- TYA: transfer Y to A (R159). -/
def handleTya (t : State) : State := (t.setA t.y).setP (setZN t.y t.p)

/-- TYA, $98, Implicit: transfer Y to A (R159). -/
def execTya (s : State) : Out := implied 2 handleTya s

/-- TSX: transfer SP to X (R160). -/
def handleTsx (t : State) : State := (t.setX t.sp).setP (setZN t.sp t.p)

/-- TSX, $BA, Implicit: transfer SP to X (R160). -/
def execTsx (s : State) : Out := implied 2 handleTsx s

/-- TXS: transfer X to SP, no flags (R161). -/
def handleTxs (t : State) : State := t.setSP t.x

/-- TXS, $9A, Implicit: transfer X to SP, no flags (R161). -/
def execTxs (s : State) : Out := implied 2 handleTxs s

end Sys2Proof.Machine
end

