-- ==== Sys2Proof/Machine/Logic.lean ====
section
/-! DEFINITION. Logic, bit test, shifts and rotates (spec/43_logic_shift.md R190-R197).
One definition for each row of the opcode table; a row's cycles and page-cross flag are the table's (R321). -/

namespace Sys2Proof.Machine

/-- AND: `A <- A & M; setZN(A)` (R190). -/
def handleAnd (m : Byte) (s : State) : State := (s.setA (s.a &&& m)).setP (setZN (s.a &&& m) s.p)

/-- ORA: `A <- A | M; setZN(A)` (R191). -/
def handleOra (m : Byte) (s : State) : State := (s.setA (s.a ||| m)).setP (setZN (s.a ||| m) s.p)

/-- EOR: `A <- A ^ M; setZN(A)` (R192). -/
def handleEor (m : Byte) (s : State) : State := (s.setA (s.a ^^^ m)).setP (setZN (s.a ^^^ m) s.p)

/-- BIT: Z, N, V; `A` is not written (R193). -/
def handleBit (m : Byte) (s : State) : State := s.setP (aluBit s.p s.a m)

/-- AND, $21, IndexedIndirect: and with A (R190). -/
def execAndIndX (zp : Byte) (s : State) : Out := reading (.memory (.indexedIndirect zp)) 6 false handleAnd s

/-- AND, $25, ZeroPage: and with A (R190). -/
def execAndZp (b1 : Byte) (s : State) : Out := reading (.memory (.zeroPage b1)) 3 false handleAnd s

/-- AND, $29, Immediate: and with A (R190). -/
def execAndImm (v : Byte) (s : State) : Out := reading (.immediate v) 2 false handleAnd s

/-- AND, $2D, Absolute: and with A (R190). -/
def execAndAbs (w : Word) (s : State) : Out := reading (.memory (.absolute w)) 4 false handleAnd s

/-- AND, $31, IndirectIndexed: and with A (R190). -/
def execAndIndY (zp : Byte) (s : State) : Out := reading (.memory (.indirectIndexed zp)) 5 true handleAnd s

/-- AND, $35, ZeroPageX: and with A (R190). -/
def execAndZpX (b1 : Byte) (s : State) : Out := reading (.memory (.zeroPageX b1)) 4 false handleAnd s

/-- AND, $39, AbsoluteY: and with A (R190). -/
def execAndAbsY (w : Word) (s : State) : Out := reading (.memory (.absoluteY w)) 4 true handleAnd s

/-- AND, $3D, AbsoluteX: and with A (R190). -/
def execAndAbsX (w : Word) (s : State) : Out := reading (.memory (.absoluteX w)) 4 true handleAnd s

/-- ORA, $01, IndexedIndirect: or with A (R191). -/
def execOraIndX (zp : Byte) (s : State) : Out := reading (.memory (.indexedIndirect zp)) 6 false handleOra s

/-- ORA, $05, ZeroPage: or with A (R191). -/
def execOraZp (b1 : Byte) (s : State) : Out := reading (.memory (.zeroPage b1)) 3 false handleOra s

/-- ORA, $09, Immediate: or with A (R191). -/
def execOraImm (v : Byte) (s : State) : Out := reading (.immediate v) 2 false handleOra s

/-- ORA, $0D, Absolute: or with A (R191). -/
def execOraAbs (w : Word) (s : State) : Out := reading (.memory (.absolute w)) 4 false handleOra s

/-- ORA, $11, IndirectIndexed: or with A (R191). -/
def execOraIndY (zp : Byte) (s : State) : Out := reading (.memory (.indirectIndexed zp)) 5 true handleOra s

/-- ORA, $15, ZeroPageX: or with A (R191). -/
def execOraZpX (b1 : Byte) (s : State) : Out := reading (.memory (.zeroPageX b1)) 4 false handleOra s

/-- ORA, $19, AbsoluteY: or with A (R191). -/
def execOraAbsY (w : Word) (s : State) : Out := reading (.memory (.absoluteY w)) 4 true handleOra s

/-- ORA, $1D, AbsoluteX: or with A (R191). -/
def execOraAbsX (w : Word) (s : State) : Out := reading (.memory (.absoluteX w)) 4 true handleOra s

/-- EOR, $41, IndexedIndirect: exclusive or with A (R192). -/
def execEorIndX (zp : Byte) (s : State) : Out := reading (.memory (.indexedIndirect zp)) 6 false handleEor s

/-- EOR, $45, ZeroPage: exclusive or with A (R192). -/
def execEorZp (b1 : Byte) (s : State) : Out := reading (.memory (.zeroPage b1)) 3 false handleEor s

/-- EOR, $49, Immediate: exclusive or with A (R192). -/
def execEorImm (v : Byte) (s : State) : Out := reading (.immediate v) 2 false handleEor s

/-- EOR, $4D, Absolute: exclusive or with A (R192). -/
def execEorAbs (w : Word) (s : State) : Out := reading (.memory (.absolute w)) 4 false handleEor s

/-- EOR, $51, IndirectIndexed: exclusive or with A (R192). -/
def execEorIndY (zp : Byte) (s : State) : Out := reading (.memory (.indirectIndexed zp)) 5 true handleEor s

/-- EOR, $55, ZeroPageX: exclusive or with A (R192). -/
def execEorZpX (b1 : Byte) (s : State) : Out := reading (.memory (.zeroPageX b1)) 4 false handleEor s

/-- EOR, $59, AbsoluteY: exclusive or with A (R192). -/
def execEorAbsY (w : Word) (s : State) : Out := reading (.memory (.absoluteY w)) 4 true handleEor s

/-- EOR, $5D, AbsoluteX: exclusive or with A (R192). -/
def execEorAbsX (w : Word) (s : State) : Out := reading (.memory (.absoluteX w)) 4 true handleEor s

/-- BIT, $24, ZeroPage: bit test (R193). -/
def execBitZp (b1 : Byte) (s : State) : Out := reading (.memory (.zeroPage b1)) 3 false handleBit s

/-- BIT, $2C, Absolute: bit test (R193). -/
def execBitAbs (w : Word) (s : State) : Out := reading (.memory (.absolute w)) 4 false handleBit s

/-- ASL, $06, ZeroPage: arithmetic shift left (R194). -/
def execAslZp (b1 : Byte) (s : State) : Out := modifying (.memory (.zeroPage b1)) 5 false aluAsl s

/-- ASL, $0A, Accumulator: arithmetic shift left (R194). -/
def execAslAcc (s : State) : Out := modifying .accumulator 2 false aluAsl s

/-- ASL, $0E, Absolute: arithmetic shift left (R194). -/
def execAslAbs (w : Word) (s : State) : Out := modifying (.memory (.absolute w)) 6 false aluAsl s

/-- ASL, $16, ZeroPageX: arithmetic shift left (R194). -/
def execAslZpX (b1 : Byte) (s : State) : Out := modifying (.memory (.zeroPageX b1)) 6 false aluAsl s

/-- ASL, $1E, AbsoluteX: arithmetic shift left (R194). -/
def execAslAbsX (w : Word) (s : State) : Out := modifying (.memory (.absoluteX w)) 7 false aluAsl s

/-- LSR, $46, ZeroPage: logical shift right (R195). -/
def execLsrZp (b1 : Byte) (s : State) : Out := modifying (.memory (.zeroPage b1)) 5 false aluLsr s

/-- LSR, $4A, Accumulator: logical shift right (R195). -/
def execLsrAcc (s : State) : Out := modifying .accumulator 2 false aluLsr s

/-- LSR, $4E, Absolute: logical shift right (R195). -/
def execLsrAbs (w : Word) (s : State) : Out := modifying (.memory (.absolute w)) 6 false aluLsr s

/-- LSR, $56, ZeroPageX: logical shift right (R195). -/
def execLsrZpX (b1 : Byte) (s : State) : Out := modifying (.memory (.zeroPageX b1)) 6 false aluLsr s

/-- LSR, $5E, AbsoluteX: logical shift right (R195). -/
def execLsrAbsX (w : Word) (s : State) : Out := modifying (.memory (.absoluteX w)) 7 false aluLsr s

/-- ROL, $26, ZeroPage: rotate left through carry (R196). -/
def execRolZp (b1 : Byte) (s : State) : Out := modifying (.memory (.zeroPage b1)) 5 false aluRol s

/-- ROL, $2A, Accumulator: rotate left through carry (R196). -/
def execRolAcc (s : State) : Out := modifying .accumulator 2 false aluRol s

/-- ROL, $2E, Absolute: rotate left through carry (R196). -/
def execRolAbs (w : Word) (s : State) : Out := modifying (.memory (.absolute w)) 6 false aluRol s

/-- ROL, $36, ZeroPageX: rotate left through carry (R196). -/
def execRolZpX (b1 : Byte) (s : State) : Out := modifying (.memory (.zeroPageX b1)) 6 false aluRol s

/-- ROL, $3E, AbsoluteX: rotate left through carry (R196). -/
def execRolAbsX (w : Word) (s : State) : Out := modifying (.memory (.absoluteX w)) 7 false aluRol s

/-- ROR, $66, ZeroPage: rotate right through carry (R197). -/
def execRorZp (b1 : Byte) (s : State) : Out := modifying (.memory (.zeroPage b1)) 5 false aluRor s

/-- ROR, $6A, Accumulator: rotate right through carry (R197). -/
def execRorAcc (s : State) : Out := modifying .accumulator 2 false aluRor s

/-- ROR, $6E, Absolute: rotate right through carry (R197). -/
def execRorAbs (w : Word) (s : State) : Out := modifying (.memory (.absolute w)) 6 false aluRor s

/-- ROR, $76, ZeroPageX: rotate right through carry (R197). -/
def execRorZpX (b1 : Byte) (s : State) : Out := modifying (.memory (.zeroPageX b1)) 6 false aluRor s

/-- ROR, $7E, AbsoluteX: rotate right through carry (R197). -/
def execRorAbsX (w : Word) (s : State) : Out := modifying (.memory (.absoluteX w)) 7 false aluRor s

end Sys2Proof.Machine
end

