-- ==== Sys2Proof/Machine/StackFlags.lean ====
section
/-! DEFINITION. Stack instructions, flag instructions and NOP (spec/45_stack_flags_misc.md R240-R251).
One definition for each row of the opcode table; a row's cycles and page-cross flag are the table's (R321). -/

namespace Sys2Proof.Machine

/-- PHA: push A (R240). -/
def handlePha (t : State) : State := t.push t.a

/-- PHA, $48, Implicit: push A (R240). -/
def execPha (s : State) : Out := implied 3 handlePha s

/-- PHP: push P with bits 4 and 5 set (R241). -/
def handlePhp (t : State) : State := t.push (pushedP true t.p)

/-- PHP, $08, Implicit: push P with bits 4 and 5 set (R241). -/
def execPhp (s : State) : Out := implied 3 handlePhp s

/-- PLA: pull A (R242). -/
def handlePla (t : State) : State := (t.pull.2.setA t.pull.1).setP (setZN t.pull.1 t.p)

/-- PLA, $68, Implicit: pull A (R242). -/
def execPla (s : State) : Out := implied 4 handlePla s

/-- PLP: pull P, bit 5 forced to 1 (R243). -/
def handlePlp (t : State) : State := t.pull.2.setP (pulledP t.pull.1)

/-- PLP, $28, Implicit: pull P, bit 5 forced to 1 (R243). -/
def execPlp (s : State) : Out := implied 4 handlePlp s

/-- CLC: C <- 0 (R244). -/
def handleClc (t : State) : State := t.setP (putFlag t.p .c false)

/-- CLC, $18, Implicit: C <- 0 (R244). -/
def execClc (s : State) : Out := implied 2 handleClc s

/-- SEC: C <- 1 (R245). -/
def handleSec (t : State) : State := t.setP (putFlag t.p .c true)

/-- SEC, $38, Implicit: C <- 1 (R245). -/
def execSec (s : State) : Out := implied 2 handleSec s

/-- CLI: I <- 0 (R246). -/
def handleCli (t : State) : State := t.setP (putFlag t.p .i false)

/-- CLI, $58, Implicit: I <- 0 (R246). -/
def execCli (s : State) : Out := implied 2 handleCli s

/-- SEI: I <- 1 (R247). -/
def handleSei (t : State) : State := t.setP (putFlag t.p .i true)

/-- SEI, $78, Implicit: I <- 1 (R247). -/
def execSei (s : State) : Out := implied 2 handleSei s

/-- CLD: D <- 0 (R248). -/
def handleCld (t : State) : State := t.setP (putFlag t.p .d false)

/-- CLD, $D8, Implicit: D <- 0 (R248). -/
def execCld (s : State) : Out := implied 2 handleCld s

/-- SED: D <- 1 (R249). -/
def handleSed (t : State) : State := t.setP (putFlag t.p .d true)

/-- SED, $F8, Implicit: D <- 1 (R249). -/
def execSed (s : State) : Out := implied 2 handleSed s

/-- CLV: V <- 0 (R250). -/
def handleClv (t : State) : State := t.setP (putFlag t.p .v false)

/-- CLV, $B8, Implicit: V <- 0 (R250). -/
def execClv (s : State) : Out := implied 2 handleClv s

/-- NOP: no operation (R251). -/
def handleNop (t : State) : State := t

/-- NOP, $EA, Implicit: no operation (R251). -/
def execNop (s : State) : Out := implied 2 handleNop s

end Sys2Proof.Machine
end

