-- ==== Sys2Proof/Syntax.lean ====
section
/-! DEFINITION. The syntax of the instruction set: one constructor for each of the 151 rows of spec/opcode_table.json
(spec/30_encoding.md R96). A constructor is named by its mnemonic and its mode (`Imm`, `Zp`, `ZpX`, `ZpY`, `Abs`, `AbsX`,
`AbsY`, `Ind`, `IndX` for (zero-page,X), `IndY` for (zero-page),Y, `Acc`; a mnemonic with a single mode has no suffix) and
carries its operand bytes: one byte, or the 16-bit operand of format F3 (R90). -/

namespace Sys2Proof

/-- The instructions. Every operand value is legal (R99). -/
inductive Instr where
  -- Loads, stores and transfers (spec/41_load_store_transfer.md)
  | ldaIndX (zp : Byte)
  | ldaZp (b1 : Byte)
  | ldaImm (v : Byte)
  | ldaAbs (w : Word)
  | ldaIndY (zp : Byte)
  | ldaZpX (b1 : Byte)
  | ldaAbsY (w : Word)
  | ldaAbsX (w : Word)
  | ldxImm (v : Byte)
  | ldxZp (b1 : Byte)
  | ldxAbs (w : Word)
  | ldxZpY (b1 : Byte)
  | ldxAbsY (w : Word)
  | ldyImm (v : Byte)
  | ldyZp (b1 : Byte)
  | ldyAbs (w : Word)
  | ldyZpX (b1 : Byte)
  | ldyAbsX (w : Word)
  | staIndX (zp : Byte)
  | staZp (b1 : Byte)
  | staAbs (w : Word)
  | staIndY (zp : Byte)
  | staZpX (b1 : Byte)
  | staAbsY (w : Word)
  | staAbsX (w : Word)
  | stxZp (b1 : Byte)
  | stxAbs (w : Word)
  | stxZpY (b1 : Byte)
  | styZp (b1 : Byte)
  | styAbs (w : Word)
  | styZpX (b1 : Byte)
  | tax
  | tay
  | txa
  | tya
  | tsx
  | txs
  -- Arithmetic, compare, increment and decrement (spec/42_arithmetic.md)
  | adcIndX (zp : Byte)
  | adcZp (b1 : Byte)
  | adcImm (v : Byte)
  | adcAbs (w : Word)
  | adcIndY (zp : Byte)
  | adcZpX (b1 : Byte)
  | adcAbsY (w : Word)
  | adcAbsX (w : Word)
  | sbcIndX (zp : Byte)
  | sbcZp (b1 : Byte)
  | sbcImm (v : Byte)
  | sbcAbs (w : Word)
  | sbcIndY (zp : Byte)
  | sbcZpX (b1 : Byte)
  | sbcAbsY (w : Word)
  | sbcAbsX (w : Word)
  | cmpIndX (zp : Byte)
  | cmpZp (b1 : Byte)
  | cmpImm (v : Byte)
  | cmpAbs (w : Word)
  | cmpIndY (zp : Byte)
  | cmpZpX (b1 : Byte)
  | cmpAbsY (w : Word)
  | cmpAbsX (w : Word)
  | cpxImm (v : Byte)
  | cpxZp (b1 : Byte)
  | cpxAbs (w : Word)
  | cpyImm (v : Byte)
  | cpyZp (b1 : Byte)
  | cpyAbs (w : Word)
  | incZp (b1 : Byte)
  | incAbs (w : Word)
  | incZpX (b1 : Byte)
  | incAbsX (w : Word)
  | decZp (b1 : Byte)
  | decAbs (w : Word)
  | decZpX (b1 : Byte)
  | decAbsX (w : Word)
  | inx
  | iny
  | dex
  | dey
  -- Logic, bit test, shifts and rotates (spec/43_logic_shift.md)
  | andIndX (zp : Byte)
  | andZp (b1 : Byte)
  | andImm (v : Byte)
  | andAbs (w : Word)
  | andIndY (zp : Byte)
  | andZpX (b1 : Byte)
  | andAbsY (w : Word)
  | andAbsX (w : Word)
  | oraIndX (zp : Byte)
  | oraZp (b1 : Byte)
  | oraImm (v : Byte)
  | oraAbs (w : Word)
  | oraIndY (zp : Byte)
  | oraZpX (b1 : Byte)
  | oraAbsY (w : Word)
  | oraAbsX (w : Word)
  | eorIndX (zp : Byte)
  | eorZp (b1 : Byte)
  | eorImm (v : Byte)
  | eorAbs (w : Word)
  | eorIndY (zp : Byte)
  | eorZpX (b1 : Byte)
  | eorAbsY (w : Word)
  | eorAbsX (w : Word)
  | bitZp (b1 : Byte)
  | bitAbs (w : Word)
  | aslZp (b1 : Byte)
  | aslAcc
  | aslAbs (w : Word)
  | aslZpX (b1 : Byte)
  | aslAbsX (w : Word)
  | lsrZp (b1 : Byte)
  | lsrAcc
  | lsrAbs (w : Word)
  | lsrZpX (b1 : Byte)
  | lsrAbsX (w : Word)
  | rolZp (b1 : Byte)
  | rolAcc
  | rolAbs (w : Word)
  | rolZpX (b1 : Byte)
  | rolAbsX (w : Word)
  | rorZp (b1 : Byte)
  | rorAcc
  | rorAbs (w : Word)
  | rorZpX (b1 : Byte)
  | rorAbsX (w : Word)
  -- Branches, jumps, calls, BRK and RTI (spec/44_control_flow.md)
  | bpl (d : Byte)
  | bmi (d : Byte)
  | bvc (d : Byte)
  | bvs (d : Byte)
  | bcc (d : Byte)
  | bcs (d : Byte)
  | bne (d : Byte)
  | beq (d : Byte)
  | jmpAbs (w : Word)
  | jmpInd (w : Word)
  | jsr (w : Word)
  | rts
  | brk
  | rti
  -- Stack, flag instructions and NOP (spec/45_stack_flags_misc.md)
  | pha
  | php
  | pla
  | plp
  | clc
  | sec
  | cli
  | sei
  | cld
  | sed
  | clv
  | nop
  deriving DecidableEq, Repr

end Sys2Proof
end

