-- ==== Sys2Proof/Machine/Dispatch.lean ====
section
/-! DEFINITION. Dispatch: one arm for each constructor of Instr, each a direct call of that instruction's meaning. -/

namespace Sys2Proof.Machine

/-- The effect of one decoded instruction on the state at its opcode's address (R92 from the fetch on). It looks at no input
and no engine state: `step` does, before it (log entry 8). -/
def exec (i : Instr) (s : State) : Host.Outcome State Fault Refusal :=
  match i with
  -- Loads, stores and transfers (spec/41_load_store_transfer.md)
  | .ldaIndX zp => Sys2Proof.Machine.execLdaIndX zp s
  | .ldaZp b1 => Sys2Proof.Machine.execLdaZp b1 s
  | .ldaImm v => Sys2Proof.Machine.execLdaImm v s
  | .ldaAbs w => Sys2Proof.Machine.execLdaAbs w s
  | .ldaIndY zp => Sys2Proof.Machine.execLdaIndY zp s
  | .ldaZpX b1 => Sys2Proof.Machine.execLdaZpX b1 s
  | .ldaAbsY w => Sys2Proof.Machine.execLdaAbsY w s
  | .ldaAbsX w => Sys2Proof.Machine.execLdaAbsX w s
  | .ldxImm v => Sys2Proof.Machine.execLdxImm v s
  | .ldxZp b1 => Sys2Proof.Machine.execLdxZp b1 s
  | .ldxAbs w => Sys2Proof.Machine.execLdxAbs w s
  | .ldxZpY b1 => Sys2Proof.Machine.execLdxZpY b1 s
  | .ldxAbsY w => Sys2Proof.Machine.execLdxAbsY w s
  | .ldyImm v => Sys2Proof.Machine.execLdyImm v s
  | .ldyZp b1 => Sys2Proof.Machine.execLdyZp b1 s
  | .ldyAbs w => Sys2Proof.Machine.execLdyAbs w s
  | .ldyZpX b1 => Sys2Proof.Machine.execLdyZpX b1 s
  | .ldyAbsX w => Sys2Proof.Machine.execLdyAbsX w s
  | .staIndX zp => Sys2Proof.Machine.execStaIndX zp s
  | .staZp b1 => Sys2Proof.Machine.execStaZp b1 s
  | .staAbs w => Sys2Proof.Machine.execStaAbs w s
  | .staIndY zp => Sys2Proof.Machine.execStaIndY zp s
  | .staZpX b1 => Sys2Proof.Machine.execStaZpX b1 s
  | .staAbsY w => Sys2Proof.Machine.execStaAbsY w s
  | .staAbsX w => Sys2Proof.Machine.execStaAbsX w s
  | .stxZp b1 => Sys2Proof.Machine.execStxZp b1 s
  | .stxAbs w => Sys2Proof.Machine.execStxAbs w s
  | .stxZpY b1 => Sys2Proof.Machine.execStxZpY b1 s
  | .styZp b1 => Sys2Proof.Machine.execStyZp b1 s
  | .styAbs w => Sys2Proof.Machine.execStyAbs w s
  | .styZpX b1 => Sys2Proof.Machine.execStyZpX b1 s
  | .tax => Sys2Proof.Machine.execTax s
  | .tay => Sys2Proof.Machine.execTay s
  | .txa => Sys2Proof.Machine.execTxa s
  | .tya => Sys2Proof.Machine.execTya s
  | .tsx => Sys2Proof.Machine.execTsx s
  | .txs => Sys2Proof.Machine.execTxs s
  -- Arithmetic, compare, increment and decrement (spec/42_arithmetic.md)
  | .adcIndX zp => Sys2Proof.Machine.execAdcIndX zp s
  | .adcZp b1 => Sys2Proof.Machine.execAdcZp b1 s
  | .adcImm v => Sys2Proof.Machine.execAdcImm v s
  | .adcAbs w => Sys2Proof.Machine.execAdcAbs w s
  | .adcIndY zp => Sys2Proof.Machine.execAdcIndY zp s
  | .adcZpX b1 => Sys2Proof.Machine.execAdcZpX b1 s
  | .adcAbsY w => Sys2Proof.Machine.execAdcAbsY w s
  | .adcAbsX w => Sys2Proof.Machine.execAdcAbsX w s
  | .sbcIndX zp => Sys2Proof.Machine.execSbcIndX zp s
  | .sbcZp b1 => Sys2Proof.Machine.execSbcZp b1 s
  | .sbcImm v => Sys2Proof.Machine.execSbcImm v s
  | .sbcAbs w => Sys2Proof.Machine.execSbcAbs w s
  | .sbcIndY zp => Sys2Proof.Machine.execSbcIndY zp s
  | .sbcZpX b1 => Sys2Proof.Machine.execSbcZpX b1 s
  | .sbcAbsY w => Sys2Proof.Machine.execSbcAbsY w s
  | .sbcAbsX w => Sys2Proof.Machine.execSbcAbsX w s
  | .cmpIndX zp => Sys2Proof.Machine.execCmpIndX zp s
  | .cmpZp b1 => Sys2Proof.Machine.execCmpZp b1 s
  | .cmpImm v => Sys2Proof.Machine.execCmpImm v s
  | .cmpAbs w => Sys2Proof.Machine.execCmpAbs w s
  | .cmpIndY zp => Sys2Proof.Machine.execCmpIndY zp s
  | .cmpZpX b1 => Sys2Proof.Machine.execCmpZpX b1 s
  | .cmpAbsY w => Sys2Proof.Machine.execCmpAbsY w s
  | .cmpAbsX w => Sys2Proof.Machine.execCmpAbsX w s
  | .cpxImm v => Sys2Proof.Machine.execCpxImm v s
  | .cpxZp b1 => Sys2Proof.Machine.execCpxZp b1 s
  | .cpxAbs w => Sys2Proof.Machine.execCpxAbs w s
  | .cpyImm v => Sys2Proof.Machine.execCpyImm v s
  | .cpyZp b1 => Sys2Proof.Machine.execCpyZp b1 s
  | .cpyAbs w => Sys2Proof.Machine.execCpyAbs w s
  | .incZp b1 => Sys2Proof.Machine.execIncZp b1 s
  | .incAbs w => Sys2Proof.Machine.execIncAbs w s
  | .incZpX b1 => Sys2Proof.Machine.execIncZpX b1 s
  | .incAbsX w => Sys2Proof.Machine.execIncAbsX w s
  | .decZp b1 => Sys2Proof.Machine.execDecZp b1 s
  | .decAbs w => Sys2Proof.Machine.execDecAbs w s
  | .decZpX b1 => Sys2Proof.Machine.execDecZpX b1 s
  | .decAbsX w => Sys2Proof.Machine.execDecAbsX w s
  | .inx => Sys2Proof.Machine.execInx s
  | .iny => Sys2Proof.Machine.execIny s
  | .dex => Sys2Proof.Machine.execDex s
  | .dey => Sys2Proof.Machine.execDey s
  -- Logic, bit test, shifts and rotates (spec/43_logic_shift.md)
  | .andIndX zp => Sys2Proof.Machine.execAndIndX zp s
  | .andZp b1 => Sys2Proof.Machine.execAndZp b1 s
  | .andImm v => Sys2Proof.Machine.execAndImm v s
  | .andAbs w => Sys2Proof.Machine.execAndAbs w s
  | .andIndY zp => Sys2Proof.Machine.execAndIndY zp s
  | .andZpX b1 => Sys2Proof.Machine.execAndZpX b1 s
  | .andAbsY w => Sys2Proof.Machine.execAndAbsY w s
  | .andAbsX w => Sys2Proof.Machine.execAndAbsX w s
  | .oraIndX zp => Sys2Proof.Machine.execOraIndX zp s
  | .oraZp b1 => Sys2Proof.Machine.execOraZp b1 s
  | .oraImm v => Sys2Proof.Machine.execOraImm v s
  | .oraAbs w => Sys2Proof.Machine.execOraAbs w s
  | .oraIndY zp => Sys2Proof.Machine.execOraIndY zp s
  | .oraZpX b1 => Sys2Proof.Machine.execOraZpX b1 s
  | .oraAbsY w => Sys2Proof.Machine.execOraAbsY w s
  | .oraAbsX w => Sys2Proof.Machine.execOraAbsX w s
  | .eorIndX zp => Sys2Proof.Machine.execEorIndX zp s
  | .eorZp b1 => Sys2Proof.Machine.execEorZp b1 s
  | .eorImm v => Sys2Proof.Machine.execEorImm v s
  | .eorAbs w => Sys2Proof.Machine.execEorAbs w s
  | .eorIndY zp => Sys2Proof.Machine.execEorIndY zp s
  | .eorZpX b1 => Sys2Proof.Machine.execEorZpX b1 s
  | .eorAbsY w => Sys2Proof.Machine.execEorAbsY w s
  | .eorAbsX w => Sys2Proof.Machine.execEorAbsX w s
  | .bitZp b1 => Sys2Proof.Machine.execBitZp b1 s
  | .bitAbs w => Sys2Proof.Machine.execBitAbs w s
  | .aslZp b1 => Sys2Proof.Machine.execAslZp b1 s
  | .aslAcc => Sys2Proof.Machine.execAslAcc s
  | .aslAbs w => Sys2Proof.Machine.execAslAbs w s
  | .aslZpX b1 => Sys2Proof.Machine.execAslZpX b1 s
  | .aslAbsX w => Sys2Proof.Machine.execAslAbsX w s
  | .lsrZp b1 => Sys2Proof.Machine.execLsrZp b1 s
  | .lsrAcc => Sys2Proof.Machine.execLsrAcc s
  | .lsrAbs w => Sys2Proof.Machine.execLsrAbs w s
  | .lsrZpX b1 => Sys2Proof.Machine.execLsrZpX b1 s
  | .lsrAbsX w => Sys2Proof.Machine.execLsrAbsX w s
  | .rolZp b1 => Sys2Proof.Machine.execRolZp b1 s
  | .rolAcc => Sys2Proof.Machine.execRolAcc s
  | .rolAbs w => Sys2Proof.Machine.execRolAbs w s
  | .rolZpX b1 => Sys2Proof.Machine.execRolZpX b1 s
  | .rolAbsX w => Sys2Proof.Machine.execRolAbsX w s
  | .rorZp b1 => Sys2Proof.Machine.execRorZp b1 s
  | .rorAcc => Sys2Proof.Machine.execRorAcc s
  | .rorAbs w => Sys2Proof.Machine.execRorAbs w s
  | .rorZpX b1 => Sys2Proof.Machine.execRorZpX b1 s
  | .rorAbsX w => Sys2Proof.Machine.execRorAbsX w s
  -- Branches, jumps, calls, BRK and RTI (spec/44_control_flow.md)
  | .bpl d => Sys2Proof.Machine.execBpl d s
  | .bmi d => Sys2Proof.Machine.execBmi d s
  | .bvc d => Sys2Proof.Machine.execBvc d s
  | .bvs d => Sys2Proof.Machine.execBvs d s
  | .bcc d => Sys2Proof.Machine.execBcc d s
  | .bcs d => Sys2Proof.Machine.execBcs d s
  | .bne d => Sys2Proof.Machine.execBne d s
  | .beq d => Sys2Proof.Machine.execBeq d s
  | .jmpAbs w => Sys2Proof.Machine.execJmpAbs w s
  | .jmpInd w => Sys2Proof.Machine.execJmpInd w s
  | .jsr w => Sys2Proof.Machine.execJsr w s
  | .rts => Sys2Proof.Machine.execRts s
  | .brk => Sys2Proof.Machine.execBrk s
  | .rti => Sys2Proof.Machine.execRti s
  -- Stack, flag instructions and NOP (spec/45_stack_flags_misc.md)
  | .pha => Sys2Proof.Machine.execPha s
  | .php => Sys2Proof.Machine.execPhp s
  | .pla => Sys2Proof.Machine.execPla s
  | .plp => Sys2Proof.Machine.execPlp s
  | .clc => Sys2Proof.Machine.execClc s
  | .sec => Sys2Proof.Machine.execSec s
  | .cli => Sys2Proof.Machine.execCli s
  | .sei => Sys2Proof.Machine.execSei s
  | .cld => Sys2Proof.Machine.execCld s
  | .sed => Sys2Proof.Machine.execSed s
  | .clv => Sys2Proof.Machine.execClv s
  | .nop => Sys2Proof.Machine.execNop s

end Sys2Proof.Machine
end

