-- ==== Sys2Proof/WellFormed.lean ====
section
/-! DEFINITION. Well-formedness. No instruction has an operand a check could refuse: "Every byte value is a legal operand
byte for every mode" (spec/30_encoding.md R99), and the types of Instr hold exactly those values. The one argument the
spec restricts is the host's bit number in `setFlag` and `isFlagSet` (spec/10_state.md R28, D31). -/

namespace Sys2Proof

/-- Every instruction is well formed (R99). -/
def Instr.wellFormed (_ : Instr) : Bool := true

/-- A legal bit number of the host's flag calls: 0..7 (R28). -/
def flagBitWellFormed (bit : Nat) : Bool := decide (bit < 8)

end Sys2Proof
end

