-- ==== Sys2Proof/Decode.lean ====
section
/-! DEFINITION. The instruction table and the decoder (spec/30_encoding.md R90-R99), and after them the encoder.
The decoder is a lookup of all 8 bits of the opcode (R94) in the opcode map of R96; a cell holds the instruction record
of R95 (mnemonic, mode, base cycles, extra-cycle-on-page-cross flag) and what instruction the operand bytes make. -/

namespace Sys2Proof

/-- The 13 addressing modes (R120). -/
inductive Mode where
  | implicit | accumulator | immediate | zeroPage | zeroPageX | zeroPageY | relative
  | absolute | absoluteX | absoluteY | indirect | indexedIndirect | indirectIndexed
  deriving DecidableEq, Repr

/-- `operandBytes(mode)` (R120). -/
def Mode.operandBytes : Mode → Nat
  | .implicit => 0
  | .accumulator => 0
  | .immediate => 1
  | .zeroPage => 1
  | .zeroPageX => 1
  | .zeroPageY => 1
  | .relative => 1
  | .absolute => 2
  | .absoluteX => 2
  | .absoluteY => 2
  | .indirect => 2
  | .indexedIndirect => 1
  | .indirectIndexed => 1

/-- The three formats of R90, each with the instruction its operand bytes make. -/
inductive Format where
  | f1 (i : Instr)
  | f2 (make : Byte → Instr)
  | f3 (make : Word → Instr)

/-- An instruction record (R95), with the format in the place of the handler. -/
structure Record where
  mnemonic : String
  mode : Mode
  baseCycles : Nat
  pageCrossExtra : Bool
  format : Format

/-- Why bytes are no instruction. -/
inductive DecodeError where
  /-- The opcode byte has no table entry (R97). -/
  | undefinedOpcode (opcode : Byte)
  /-- A byte list that ends before the instruction does; the machine's memory never does (R60). -/
  | truncated
  deriving DecidableEq, Repr

/-- The cells $00-$0F of the opcode map (R96). -/
def opcodeRow0 : List (Option Record) := [
  some ⟨"BRK", .implicit, 7, false, .f1 .brk⟩,
  some ⟨"ORA", .indexedIndirect, 6, false, .f2 .oraIndX⟩,
  none,
  none,
  none,
  some ⟨"ORA", .zeroPage, 3, false, .f2 .oraZp⟩,
  some ⟨"ASL", .zeroPage, 5, false, .f2 .aslZp⟩,
  none,
  some ⟨"PHP", .implicit, 3, false, .f1 .php⟩,
  some ⟨"ORA", .immediate, 2, false, .f2 .oraImm⟩,
  some ⟨"ASL", .accumulator, 2, false, .f1 .aslAcc⟩,
  none,
  none,
  some ⟨"ORA", .absolute, 4, false, .f3 .oraAbs⟩,
  some ⟨"ASL", .absolute, 6, false, .f3 .aslAbs⟩,
  none]

/-- The cells $10-$1F of the opcode map (R96). -/
def opcodeRow1 : List (Option Record) := [
  some ⟨"BPL", .relative, 2, false, .f2 .bpl⟩,
  some ⟨"ORA", .indirectIndexed, 5, true, .f2 .oraIndY⟩,
  none,
  none,
  none,
  some ⟨"ORA", .zeroPageX, 4, false, .f2 .oraZpX⟩,
  some ⟨"ASL", .zeroPageX, 6, false, .f2 .aslZpX⟩,
  none,
  some ⟨"CLC", .implicit, 2, false, .f1 .clc⟩,
  some ⟨"ORA", .absoluteY, 4, true, .f3 .oraAbsY⟩,
  none,
  none,
  none,
  some ⟨"ORA", .absoluteX, 4, true, .f3 .oraAbsX⟩,
  some ⟨"ASL", .absoluteX, 7, false, .f3 .aslAbsX⟩,
  none]

/-- The cells $20-$2F of the opcode map (R96). -/
def opcodeRow2 : List (Option Record) := [
  some ⟨"JSR", .absolute, 6, false, .f3 .jsr⟩,
  some ⟨"AND", .indexedIndirect, 6, false, .f2 .andIndX⟩,
  none,
  none,
  some ⟨"BIT", .zeroPage, 3, false, .f2 .bitZp⟩,
  some ⟨"AND", .zeroPage, 3, false, .f2 .andZp⟩,
  some ⟨"ROL", .zeroPage, 5, false, .f2 .rolZp⟩,
  none,
  some ⟨"PLP", .implicit, 4, false, .f1 .plp⟩,
  some ⟨"AND", .immediate, 2, false, .f2 .andImm⟩,
  some ⟨"ROL", .accumulator, 2, false, .f1 .rolAcc⟩,
  none,
  some ⟨"BIT", .absolute, 4, false, .f3 .bitAbs⟩,
  some ⟨"AND", .absolute, 4, false, .f3 .andAbs⟩,
  some ⟨"ROL", .absolute, 6, false, .f3 .rolAbs⟩,
  none]

/-- The cells $30-$3F of the opcode map (R96). -/
def opcodeRow3 : List (Option Record) := [
  some ⟨"BMI", .relative, 2, false, .f2 .bmi⟩,
  some ⟨"AND", .indirectIndexed, 5, true, .f2 .andIndY⟩,
  none,
  none,
  none,
  some ⟨"AND", .zeroPageX, 4, false, .f2 .andZpX⟩,
  some ⟨"ROL", .zeroPageX, 6, false, .f2 .rolZpX⟩,
  none,
  some ⟨"SEC", .implicit, 2, false, .f1 .sec⟩,
  some ⟨"AND", .absoluteY, 4, true, .f3 .andAbsY⟩,
  none,
  none,
  none,
  some ⟨"AND", .absoluteX, 4, true, .f3 .andAbsX⟩,
  some ⟨"ROL", .absoluteX, 7, false, .f3 .rolAbsX⟩,
  none]

/-- The cells $40-$4F of the opcode map (R96). -/
def opcodeRow4 : List (Option Record) := [
  some ⟨"RTI", .implicit, 6, false, .f1 .rti⟩,
  some ⟨"EOR", .indexedIndirect, 6, false, .f2 .eorIndX⟩,
  none,
  none,
  none,
  some ⟨"EOR", .zeroPage, 3, false, .f2 .eorZp⟩,
  some ⟨"LSR", .zeroPage, 5, false, .f2 .lsrZp⟩,
  none,
  some ⟨"PHA", .implicit, 3, false, .f1 .pha⟩,
  some ⟨"EOR", .immediate, 2, false, .f2 .eorImm⟩,
  some ⟨"LSR", .accumulator, 2, false, .f1 .lsrAcc⟩,
  none,
  some ⟨"JMP", .absolute, 3, false, .f3 .jmpAbs⟩,
  some ⟨"EOR", .absolute, 4, false, .f3 .eorAbs⟩,
  some ⟨"LSR", .absolute, 6, false, .f3 .lsrAbs⟩,
  none]

/-- The cells $50-$5F of the opcode map (R96). -/
def opcodeRow5 : List (Option Record) := [
  some ⟨"BVC", .relative, 2, false, .f2 .bvc⟩,
  some ⟨"EOR", .indirectIndexed, 5, true, .f2 .eorIndY⟩,
  none,
  none,
  none,
  some ⟨"EOR", .zeroPageX, 4, false, .f2 .eorZpX⟩,
  some ⟨"LSR", .zeroPageX, 6, false, .f2 .lsrZpX⟩,
  none,
  some ⟨"CLI", .implicit, 2, false, .f1 .cli⟩,
  some ⟨"EOR", .absoluteY, 4, true, .f3 .eorAbsY⟩,
  none,
  none,
  none,
  some ⟨"EOR", .absoluteX, 4, true, .f3 .eorAbsX⟩,
  some ⟨"LSR", .absoluteX, 7, false, .f3 .lsrAbsX⟩,
  none]

/-- The cells $60-$6F of the opcode map (R96). -/
def opcodeRow6 : List (Option Record) := [
  some ⟨"RTS", .implicit, 6, false, .f1 .rts⟩,
  some ⟨"ADC", .indexedIndirect, 6, false, .f2 .adcIndX⟩,
  none,
  none,
  none,
  some ⟨"ADC", .zeroPage, 3, false, .f2 .adcZp⟩,
  some ⟨"ROR", .zeroPage, 5, false, .f2 .rorZp⟩,
  none,
  some ⟨"PLA", .implicit, 4, false, .f1 .pla⟩,
  some ⟨"ADC", .immediate, 2, false, .f2 .adcImm⟩,
  some ⟨"ROR", .accumulator, 2, false, .f1 .rorAcc⟩,
  none,
  some ⟨"JMP", .indirect, 5, false, .f3 .jmpInd⟩,
  some ⟨"ADC", .absolute, 4, false, .f3 .adcAbs⟩,
  some ⟨"ROR", .absolute, 6, false, .f3 .rorAbs⟩,
  none]

/-- The cells $70-$7F of the opcode map (R96). -/
def opcodeRow7 : List (Option Record) := [
  some ⟨"BVS", .relative, 2, false, .f2 .bvs⟩,
  some ⟨"ADC", .indirectIndexed, 5, true, .f2 .adcIndY⟩,
  none,
  none,
  none,
  some ⟨"ADC", .zeroPageX, 4, false, .f2 .adcZpX⟩,
  some ⟨"ROR", .zeroPageX, 6, false, .f2 .rorZpX⟩,
  none,
  some ⟨"SEI", .implicit, 2, false, .f1 .sei⟩,
  some ⟨"ADC", .absoluteY, 4, true, .f3 .adcAbsY⟩,
  none,
  none,
  none,
  some ⟨"ADC", .absoluteX, 4, true, .f3 .adcAbsX⟩,
  some ⟨"ROR", .absoluteX, 7, false, .f3 .rorAbsX⟩,
  none]

/-- The cells $80-$8F of the opcode map (R96). -/
def opcodeRow8 : List (Option Record) := [
  none,
  some ⟨"STA", .indexedIndirect, 6, false, .f2 .staIndX⟩,
  none,
  none,
  some ⟨"STY", .zeroPage, 3, false, .f2 .styZp⟩,
  some ⟨"STA", .zeroPage, 3, false, .f2 .staZp⟩,
  some ⟨"STX", .zeroPage, 3, false, .f2 .stxZp⟩,
  none,
  some ⟨"DEY", .implicit, 2, false, .f1 .dey⟩,
  none,
  some ⟨"TXA", .implicit, 2, false, .f1 .txa⟩,
  none,
  some ⟨"STY", .absolute, 4, false, .f3 .styAbs⟩,
  some ⟨"STA", .absolute, 4, false, .f3 .staAbs⟩,
  some ⟨"STX", .absolute, 4, false, .f3 .stxAbs⟩,
  none]

/-- The cells $90-$9F of the opcode map (R96). -/
def opcodeRow9 : List (Option Record) := [
  some ⟨"BCC", .relative, 2, false, .f2 .bcc⟩,
  some ⟨"STA", .indirectIndexed, 6, false, .f2 .staIndY⟩,
  none,
  none,
  some ⟨"STY", .zeroPageX, 4, false, .f2 .styZpX⟩,
  some ⟨"STA", .zeroPageX, 4, false, .f2 .staZpX⟩,
  some ⟨"STX", .zeroPageY, 4, false, .f2 .stxZpY⟩,
  none,
  some ⟨"TYA", .implicit, 2, false, .f1 .tya⟩,
  some ⟨"STA", .absoluteY, 5, false, .f3 .staAbsY⟩,
  some ⟨"TXS", .implicit, 2, false, .f1 .txs⟩,
  none,
  none,
  some ⟨"STA", .absoluteX, 5, false, .f3 .staAbsX⟩,
  none,
  none]

/-- The cells $A0-$AF of the opcode map (R96). -/
def opcodeRowA : List (Option Record) := [
  some ⟨"LDY", .immediate, 2, false, .f2 .ldyImm⟩,
  some ⟨"LDA", .indexedIndirect, 6, false, .f2 .ldaIndX⟩,
  some ⟨"LDX", .immediate, 2, false, .f2 .ldxImm⟩,
  none,
  some ⟨"LDY", .zeroPage, 3, false, .f2 .ldyZp⟩,
  some ⟨"LDA", .zeroPage, 3, false, .f2 .ldaZp⟩,
  some ⟨"LDX", .zeroPage, 3, false, .f2 .ldxZp⟩,
  none,
  some ⟨"TAY", .implicit, 2, false, .f1 .tay⟩,
  some ⟨"LDA", .immediate, 2, false, .f2 .ldaImm⟩,
  some ⟨"TAX", .implicit, 2, false, .f1 .tax⟩,
  none,
  some ⟨"LDY", .absolute, 4, false, .f3 .ldyAbs⟩,
  some ⟨"LDA", .absolute, 4, false, .f3 .ldaAbs⟩,
  some ⟨"LDX", .absolute, 4, false, .f3 .ldxAbs⟩,
  none]

/-- The cells $B0-$BF of the opcode map (R96). -/
def opcodeRowB : List (Option Record) := [
  some ⟨"BCS", .relative, 2, false, .f2 .bcs⟩,
  some ⟨"LDA", .indirectIndexed, 5, true, .f2 .ldaIndY⟩,
  none,
  none,
  some ⟨"LDY", .zeroPageX, 4, false, .f2 .ldyZpX⟩,
  some ⟨"LDA", .zeroPageX, 4, false, .f2 .ldaZpX⟩,
  some ⟨"LDX", .zeroPageY, 4, false, .f2 .ldxZpY⟩,
  none,
  some ⟨"CLV", .implicit, 2, false, .f1 .clv⟩,
  some ⟨"LDA", .absoluteY, 4, true, .f3 .ldaAbsY⟩,
  some ⟨"TSX", .implicit, 2, false, .f1 .tsx⟩,
  none,
  some ⟨"LDY", .absoluteX, 4, true, .f3 .ldyAbsX⟩,
  some ⟨"LDA", .absoluteX, 4, true, .f3 .ldaAbsX⟩,
  some ⟨"LDX", .absoluteY, 4, true, .f3 .ldxAbsY⟩,
  none]

/-- The cells $C0-$CF of the opcode map (R96). -/
def opcodeRowC : List (Option Record) := [
  some ⟨"CPY", .immediate, 2, false, .f2 .cpyImm⟩,
  some ⟨"CMP", .indexedIndirect, 6, false, .f2 .cmpIndX⟩,
  none,
  none,
  some ⟨"CPY", .zeroPage, 3, false, .f2 .cpyZp⟩,
  some ⟨"CMP", .zeroPage, 3, false, .f2 .cmpZp⟩,
  some ⟨"DEC", .zeroPage, 5, false, .f2 .decZp⟩,
  none,
  some ⟨"INY", .implicit, 2, false, .f1 .iny⟩,
  some ⟨"CMP", .immediate, 2, false, .f2 .cmpImm⟩,
  some ⟨"DEX", .implicit, 2, false, .f1 .dex⟩,
  none,
  some ⟨"CPY", .absolute, 4, false, .f3 .cpyAbs⟩,
  some ⟨"CMP", .absolute, 4, false, .f3 .cmpAbs⟩,
  some ⟨"DEC", .absolute, 6, false, .f3 .decAbs⟩,
  none]

/-- The cells $D0-$DF of the opcode map (R96). -/
def opcodeRowD : List (Option Record) := [
  some ⟨"BNE", .relative, 2, false, .f2 .bne⟩,
  some ⟨"CMP", .indirectIndexed, 5, true, .f2 .cmpIndY⟩,
  none,
  none,
  none,
  some ⟨"CMP", .zeroPageX, 4, false, .f2 .cmpZpX⟩,
  some ⟨"DEC", .zeroPageX, 6, false, .f2 .decZpX⟩,
  none,
  some ⟨"CLD", .implicit, 2, false, .f1 .cld⟩,
  some ⟨"CMP", .absoluteY, 4, true, .f3 .cmpAbsY⟩,
  none,
  none,
  none,
  some ⟨"CMP", .absoluteX, 4, true, .f3 .cmpAbsX⟩,
  some ⟨"DEC", .absoluteX, 7, false, .f3 .decAbsX⟩,
  none]

/-- The cells $E0-$EF of the opcode map (R96). -/
def opcodeRowE : List (Option Record) := [
  some ⟨"CPX", .immediate, 2, false, .f2 .cpxImm⟩,
  some ⟨"SBC", .indexedIndirect, 6, false, .f2 .sbcIndX⟩,
  none,
  none,
  some ⟨"CPX", .zeroPage, 3, false, .f2 .cpxZp⟩,
  some ⟨"SBC", .zeroPage, 3, false, .f2 .sbcZp⟩,
  some ⟨"INC", .zeroPage, 5, false, .f2 .incZp⟩,
  none,
  some ⟨"INX", .implicit, 2, false, .f1 .inx⟩,
  some ⟨"SBC", .immediate, 2, false, .f2 .sbcImm⟩,
  some ⟨"NOP", .implicit, 2, false, .f1 .nop⟩,
  none,
  some ⟨"CPX", .absolute, 4, false, .f3 .cpxAbs⟩,
  some ⟨"SBC", .absolute, 4, false, .f3 .sbcAbs⟩,
  some ⟨"INC", .absolute, 6, false, .f3 .incAbs⟩,
  none]

/-- The cells $F0-$FF of the opcode map (R96). -/
def opcodeRowF : List (Option Record) := [
  some ⟨"BEQ", .relative, 2, false, .f2 .beq⟩,
  some ⟨"SBC", .indirectIndexed, 5, true, .f2 .sbcIndY⟩,
  none,
  none,
  none,
  some ⟨"SBC", .zeroPageX, 4, false, .f2 .sbcZpX⟩,
  some ⟨"INC", .zeroPageX, 6, false, .f2 .incZpX⟩,
  none,
  some ⟨"SED", .implicit, 2, false, .f1 .sed⟩,
  some ⟨"SBC", .absoluteY, 4, true, .f3 .sbcAbsY⟩,
  none,
  none,
  none,
  some ⟨"SBC", .absoluteX, 4, true, .f3 .sbcAbsX⟩,
  some ⟨"INC", .absoluteX, 7, false, .f3 .incAbsX⟩,
  none]

/-- The opcode map (R96): the cell of opcode `op` stands at place `op`. -/
def opcodeMap : List (Option Record) :=
  opcodeRow0 ++ opcodeRow1 ++ opcodeRow2 ++ opcodeRow3 ++ opcodeRow4 ++ opcodeRow5 ++ opcodeRow6 ++ opcodeRow7 ++
  opcodeRow8 ++ opcodeRow9 ++ opcodeRowA ++ opcodeRowB ++ opcodeRowC ++ opcodeRowD ++ opcodeRowE ++ opcodeRowF

/-- `Table[op]` (R94): the record, or none where the opcode is undefined. -/
def lookup (op : Byte) : Option Record :=
  match opcodeMap[op.toNat]? with
  | some cell => cell
  | none => none

/-- The instruction of a format and the two bytes that follow the opcode; a shorter format leaves them unread. -/
def Format.assemble : Format → Byte → Byte → Instr
  | .f1 i, _, _ => i
  | .f2 make, b1, _ => make b1
  | .f3 make, lo, hi => make (Machine.wordOf lo hi)

/-- The operands of an instruction after its opcode, and the bytes that follow it. -/
def decodeOperands : Format → List Byte → Except DecodeError (Instr × List Byte)
  | .f1 i, rest => .ok (i, rest)
  | .f2 make, b1 :: rest => .ok (make b1, rest)
  | .f3 make, lo :: hi :: rest => .ok (make (Machine.wordOf lo hi), rest)
  | .f2 _, [] => .error .truncated
  | .f3 _, [] => .error .truncated
  | .f3 _, [_] => .error .truncated

/-- The instruction at the head of a byte list and the bytes that follow it (R90, R91, R94, R97). -/
def decode : List Byte → Except DecodeError (Instr × List Byte)
  | [] => .error .truncated
  | op :: rest =>
    match lookup op with
    | none => .error (.undefinedOpcode op)
    | some record => decodeOperands record.format rest

/-- Byte `k` of an instruction whose bits are `w`, the first byte the least significant. -/
def tableByte (w k : Nat) : Byte := BitVec.ofNat 8 (w >>> (8 * k))

/-- The longest instruction has 3 bytes (R90); every bit at or above `nbits` is 0. -/
def tableBytes (nbits w : Nat) : List Byte :=
  let v := w % 2 ^ nbits
  [tableByte v 0, tableByte v 1, tableByte v 2]

/-- The instruction the decoder reads from an instruction whose bits are `w`, numbered as spec/opcode_table.json
numbers them; none where the decoder refuses. -/
def decodeTableWord (nbits w : Nat) : Option Instr :=
  match decode (tableBytes nbits w) with
  | .ok (i, _) => some i
  | .error _ => none

/-- The bytes of an instruction, opcode first, a 16-bit operand low byte first (R90, R96). -/
def encode : Instr → List Byte
  | .ldaIndX zp => [0xA1, zp]
  | .ldaZp b1 => [0xA5, b1]
  | .ldaImm v => [0xA9, v]
  | .ldaAbs w => [0xAD, Machine.loByte w, Machine.hiByte w]
  | .ldaIndY zp => [0xB1, zp]
  | .ldaZpX b1 => [0xB5, b1]
  | .ldaAbsY w => [0xB9, Machine.loByte w, Machine.hiByte w]
  | .ldaAbsX w => [0xBD, Machine.loByte w, Machine.hiByte w]
  | .ldxImm v => [0xA2, v]
  | .ldxZp b1 => [0xA6, b1]
  | .ldxAbs w => [0xAE, Machine.loByte w, Machine.hiByte w]
  | .ldxZpY b1 => [0xB6, b1]
  | .ldxAbsY w => [0xBE, Machine.loByte w, Machine.hiByte w]
  | .ldyImm v => [0xA0, v]
  | .ldyZp b1 => [0xA4, b1]
  | .ldyAbs w => [0xAC, Machine.loByte w, Machine.hiByte w]
  | .ldyZpX b1 => [0xB4, b1]
  | .ldyAbsX w => [0xBC, Machine.loByte w, Machine.hiByte w]
  | .staIndX zp => [0x81, zp]
  | .staZp b1 => [0x85, b1]
  | .staAbs w => [0x8D, Machine.loByte w, Machine.hiByte w]
  | .staIndY zp => [0x91, zp]
  | .staZpX b1 => [0x95, b1]
  | .staAbsY w => [0x99, Machine.loByte w, Machine.hiByte w]
  | .staAbsX w => [0x9D, Machine.loByte w, Machine.hiByte w]
  | .stxZp b1 => [0x86, b1]
  | .stxAbs w => [0x8E, Machine.loByte w, Machine.hiByte w]
  | .stxZpY b1 => [0x96, b1]
  | .styZp b1 => [0x84, b1]
  | .styAbs w => [0x8C, Machine.loByte w, Machine.hiByte w]
  | .styZpX b1 => [0x94, b1]
  | .tax => [0xAA]
  | .tay => [0xA8]
  | .txa => [0x8A]
  | .tya => [0x98]
  | .tsx => [0xBA]
  | .txs => [0x9A]
  | .adcIndX zp => [0x61, zp]
  | .adcZp b1 => [0x65, b1]
  | .adcImm v => [0x69, v]
  | .adcAbs w => [0x6D, Machine.loByte w, Machine.hiByte w]
  | .adcIndY zp => [0x71, zp]
  | .adcZpX b1 => [0x75, b1]
  | .adcAbsY w => [0x79, Machine.loByte w, Machine.hiByte w]
  | .adcAbsX w => [0x7D, Machine.loByte w, Machine.hiByte w]
  | .sbcIndX zp => [0xE1, zp]
  | .sbcZp b1 => [0xE5, b1]
  | .sbcImm v => [0xE9, v]
  | .sbcAbs w => [0xED, Machine.loByte w, Machine.hiByte w]
  | .sbcIndY zp => [0xF1, zp]
  | .sbcZpX b1 => [0xF5, b1]
  | .sbcAbsY w => [0xF9, Machine.loByte w, Machine.hiByte w]
  | .sbcAbsX w => [0xFD, Machine.loByte w, Machine.hiByte w]
  | .cmpIndX zp => [0xC1, zp]
  | .cmpZp b1 => [0xC5, b1]
  | .cmpImm v => [0xC9, v]
  | .cmpAbs w => [0xCD, Machine.loByte w, Machine.hiByte w]
  | .cmpIndY zp => [0xD1, zp]
  | .cmpZpX b1 => [0xD5, b1]
  | .cmpAbsY w => [0xD9, Machine.loByte w, Machine.hiByte w]
  | .cmpAbsX w => [0xDD, Machine.loByte w, Machine.hiByte w]
  | .cpxImm v => [0xE0, v]
  | .cpxZp b1 => [0xE4, b1]
  | .cpxAbs w => [0xEC, Machine.loByte w, Machine.hiByte w]
  | .cpyImm v => [0xC0, v]
  | .cpyZp b1 => [0xC4, b1]
  | .cpyAbs w => [0xCC, Machine.loByte w, Machine.hiByte w]
  | .incZp b1 => [0xE6, b1]
  | .incAbs w => [0xEE, Machine.loByte w, Machine.hiByte w]
  | .incZpX b1 => [0xF6, b1]
  | .incAbsX w => [0xFE, Machine.loByte w, Machine.hiByte w]
  | .decZp b1 => [0xC6, b1]
  | .decAbs w => [0xCE, Machine.loByte w, Machine.hiByte w]
  | .decZpX b1 => [0xD6, b1]
  | .decAbsX w => [0xDE, Machine.loByte w, Machine.hiByte w]
  | .inx => [0xE8]
  | .iny => [0xC8]
  | .dex => [0xCA]
  | .dey => [0x88]
  | .andIndX zp => [0x21, zp]
  | .andZp b1 => [0x25, b1]
  | .andImm v => [0x29, v]
  | .andAbs w => [0x2D, Machine.loByte w, Machine.hiByte w]
  | .andIndY zp => [0x31, zp]
  | .andZpX b1 => [0x35, b1]
  | .andAbsY w => [0x39, Machine.loByte w, Machine.hiByte w]
  | .andAbsX w => [0x3D, Machine.loByte w, Machine.hiByte w]
  | .oraIndX zp => [0x01, zp]
  | .oraZp b1 => [0x05, b1]
  | .oraImm v => [0x09, v]
  | .oraAbs w => [0x0D, Machine.loByte w, Machine.hiByte w]
  | .oraIndY zp => [0x11, zp]
  | .oraZpX b1 => [0x15, b1]
  | .oraAbsY w => [0x19, Machine.loByte w, Machine.hiByte w]
  | .oraAbsX w => [0x1D, Machine.loByte w, Machine.hiByte w]
  | .eorIndX zp => [0x41, zp]
  | .eorZp b1 => [0x45, b1]
  | .eorImm v => [0x49, v]
  | .eorAbs w => [0x4D, Machine.loByte w, Machine.hiByte w]
  | .eorIndY zp => [0x51, zp]
  | .eorZpX b1 => [0x55, b1]
  | .eorAbsY w => [0x59, Machine.loByte w, Machine.hiByte w]
  | .eorAbsX w => [0x5D, Machine.loByte w, Machine.hiByte w]
  | .bitZp b1 => [0x24, b1]
  | .bitAbs w => [0x2C, Machine.loByte w, Machine.hiByte w]
  | .aslZp b1 => [0x06, b1]
  | .aslAcc => [0x0A]
  | .aslAbs w => [0x0E, Machine.loByte w, Machine.hiByte w]
  | .aslZpX b1 => [0x16, b1]
  | .aslAbsX w => [0x1E, Machine.loByte w, Machine.hiByte w]
  | .lsrZp b1 => [0x46, b1]
  | .lsrAcc => [0x4A]
  | .lsrAbs w => [0x4E, Machine.loByte w, Machine.hiByte w]
  | .lsrZpX b1 => [0x56, b1]
  | .lsrAbsX w => [0x5E, Machine.loByte w, Machine.hiByte w]
  | .rolZp b1 => [0x26, b1]
  | .rolAcc => [0x2A]
  | .rolAbs w => [0x2E, Machine.loByte w, Machine.hiByte w]
  | .rolZpX b1 => [0x36, b1]
  | .rolAbsX w => [0x3E, Machine.loByte w, Machine.hiByte w]
  | .rorZp b1 => [0x66, b1]
  | .rorAcc => [0x6A]
  | .rorAbs w => [0x6E, Machine.loByte w, Machine.hiByte w]
  | .rorZpX b1 => [0x76, b1]
  | .rorAbsX w => [0x7E, Machine.loByte w, Machine.hiByte w]
  | .bpl d => [0x10, d]
  | .bmi d => [0x30, d]
  | .bvc d => [0x50, d]
  | .bvs d => [0x70, d]
  | .bcc d => [0x90, d]
  | .bcs d => [0xB0, d]
  | .bne d => [0xD0, d]
  | .beq d => [0xF0, d]
  | .jmpAbs w => [0x4C, Machine.loByte w, Machine.hiByte w]
  | .jmpInd w => [0x6C, Machine.loByte w, Machine.hiByte w]
  | .jsr w => [0x20, Machine.loByte w, Machine.hiByte w]
  | .rts => [0x60]
  | .brk => [0x00]
  | .rti => [0x40]
  | .pha => [0x48]
  | .php => [0x08]
  | .pla => [0x68]
  | .plp => [0x28]
  | .clc => [0x18]
  | .sec => [0x38]
  | .cli => [0x58]
  | .sei => [0x78]
  | .cld => [0xD8]
  | .sed => [0xF8]
  | .clv => [0xB8]
  | .nop => [0xEA]

/-- The opcode byte of an instruction (R96). -/
def Instr.opcode (i : Instr) : Byte := (encode i).headD 0x00

/-- The record of an instruction (R95). -/
def Instr.record (i : Instr) : Option Record := lookup i.opcode

/-- The mnemonic of an instruction, as its record has it (R95); empty if its opcode had no record. -/
def Instr.mnemonic (i : Instr) : String :=
  match i.record with
  | some r => r.mnemonic
  | none => ""

end Sys2Proof
end

