-- ==== Sys2Proof/Machine/Fetch.lean ====
section
/-! DEFINITION. The parts of a step before an instruction runs (spec/30_encoding.md R92-R94): whether the step is enabled,
the events sampled at its start (spec/60_exceptions.md R266), and the fetch. -/

namespace Sys2Proof.Machine

/-- Why a step is not enabled, if it is not: it is enabled only in the ready engine (R41, R92). -/
def stepBlocked (s : State) : Option Fault :=
  match s.engine with
  | .ready => none
  | .halted => some .stepWhileHalted
  | .faulted => some (.stepWhileFaulted s.fault)

/-- The event a step takes in place of an instruction, at most one: the halt request, then NMI, then IRQ if `P.I` is
clear (R266, R268). -/
def boundaryEvent (s : State) : Option State :=
  if s.haltRequest then some s.enterHalted
  else if s.nmiPending then some s.serviceNmi
  else if s.irqLine && !(getFlag s.p .i) then some s.serviceIrq
  else none

/-- The defaults of R7: the 151 opcodes of R96, and 2. -/
def standardParameters : Parameters where
  definedOpcodes op := (lookup op).isSome
  brkReturnOffset := brkReturnOffset

/-- `Table[op]`, which has an entry for an opcode of `DefinedOpcodes` only (R7, R94). -/
def lookupWith (k : Parameters) (op : Byte) : Option Record :=
  if k.definedOpcodes op then lookup op else none

/-- The fetch at `PC` (R92-R94): the opcode is looked up first; the operand bytes its format has follow it in address
order. The error is the undefined opcode, and nothing has changed. That both bytes are read here, whatever the format,
is DEDUCED (log entry 6), safe: a read changes nothing (R62). -/
def fetchWith (k : Parameters) (s : State) : Except Byte Instr :=
  let op := s.read8 s.pc
  match lookupWith k op with
  | none => .error op
  | some record => .ok (record.format.assemble (s.read8 (s.pc + 1)) (s.read8 (s.pc + 2)))

/-- The fetch with the parameters at their defaults. -/
def fetch (s : State) : Except Byte Instr := fetchWith standardParameters s

/-- Bytes stored from an address on, each address reduced mod 65536 (R83). -/
def State.storeBytes (s : State) (addr : Word) : List Byte → State
  | [] => s
  | b :: bytes => State.storeBytes (s.write8 addr b) (addr + 1) bytes

end Sys2Proof.Machine
end

