-- ==== Sys2Proof/Machine/StepWith.lean ====
section
/-! DEFINITION. One step (spec/30_encoding.md R92) with the parameters of spec/00_scope.md R7 as an argument. -/

namespace Sys2Proof.Machine

/-- `exec` with the parameters as an argument: BRK alone depends on one (R7, R222). -/
def execWith (k : Parameters) (i : Instr) (s : State) : Out :=
  match i with
  | .brk => execBrkWith k.brkReturnOffset s
  | _ => exec i s

/-- One call of `step()` (R92): nothing while the engine is halted or faulted; else the one event sampled at the
boundary; else the instruction at `PC`, or the UndefinedInstruction fault. -/
def stepWith (k : Parameters) (s : State) : Out :=
  match stepBlocked s with
  | some f => .fault f
  | none =>
    match boundaryEvent s with
    | some t => .next t
    | none =>
      match fetchWith k s with
      | .error op => .next (s.enterFaulted op)
      | .ok i => execWith k i s

end Sys2Proof.Machine
end

