-- ==== Sys2Proof/Machine/Step.lean ====
section
/-! DEFINITION. One step (spec/30_encoding.md R92). -/

namespace Sys2Proof.Machine

/-- One call of `step()` with the parameters at their defaults (R7, R92). -/
def step (s : State) : Host.Outcome State Fault Refusal := stepWith standardParameters s

/-- `s` with the instruction whose bits are `w` stored at `PC`, where the next step fetches. What would keep that step
from fetching is put out of its way: the engine is ready with no fault, and no halt, NMI or IRQ is asserted (in
State.reset all of that holds already). It stands for the host's load of the image (log entry 2). -/
def State.withFetchWord (s : State) (nbits w : Nat) : State :=
  ((((((s.storeBytes s.pc (tableBytes nbits w)).setEngine .ready).setFault none).setHaltRequest false).setNmiPending
    false).setIrqLine false)

end Sys2Proof.Machine
end

