-- ==== Sys2Proof/Machine/HostCalls.lean ====
section
/-! DEFINITION. The host's side of the interface, between steps (spec/00_scope.md R4, R15): construction, reset, load, the
interrupt inputs, the halt request, the status bits and the status views. -/

namespace Sys2Proof.Machine

/-- An instance as constructed, before any reset (R46, R303): registers and memory are the parameters
`InitialRegisters` and `InitialMemory` (R7, D16); everything else is fixed. -/
def State.construct (a x y sp p : Byte) (pc : Word) (mem : Memory) : State where
  a := a
  x := x
  y := y
  sp := sp
  pc := pc
  p := p
  mem := mem
  engine := .ready
  fault := none
  cycles := 0
  nmiPending := false
  irqLine := false
  haltRequest := false

/-- `reset()` (R300): registers and engine as stated; memory, `cycles` and `irqLine` unchanged, no stack write. -/
def State.doReset (s : State) : State :=
  ((((((((((s.setPC (s.read16 Config.resetVector)).setSP Config.resetSP).setP Config.resetP).setA 0x00).setX 0x00).setY
    0x00).setEngine .ready).setFault none).setNmiPending false).setHaltRequest false)

/-- The calls of the host that change the instance (R15, R28, R44, R45, R83, R264, R300). -/
inductive HostCall where
  | reset
  | load (bytes : List Byte) (origin : Word := Config.loadOrigin)
  | signalNmi
  | setIrq (level : Bool)
  | requestHalt
  | setFlag (bit : Nat) (value : Bool)
  deriving DecidableEq, Repr

/-- `setFlag(bit, value)` (R28): exactly one bit changes; a bit outside 0..7 is refused (D31). -/
def State.hostSetFlag (s : State) (bit : Nat) (value : Bool) : Out :=
  if flagBitWellFormed bit then .next (s.setP (setBit s.p bit value)) else .refused (.flagBitOutOfRange bit)

/-- `isFlagSet(bit)` (R28): `P[bit] = 1`; a bit outside 0..7 is refused (D31). -/
def State.hostIsFlagSet (s : State) (bit : Nat) : Except Refusal Bool :=
  if flagBitWellFormed bit then .ok (testBit s.p bit) else .error (.flagBitOutOfRange bit)

/-- The effect of one host call between steps; when a load is admitted, Session.lean says (R84). That a load has this effect
in every state is a DESIGN CHOICE (log entry 5), safe; that no call falls inside a step is DEDUCED (log entry 9), safe. -/
def hostCall (c : HostCall) (s : State) : Out :=
  match c with
  | .reset => .next s.doReset
  | .load bytes origin => .next (s.storeBytes origin bytes)
  | .signalNmi => .next (s.setNmiPending true)
  | .setIrq level => .next (s.setIrqLine level)
  | .requestHalt => .next (s.setHaltRequest true)
  | .setFlag bit value => s.hostSetFlag bit value

/-- What `step()` returns to its caller (R92, R320): the cycles of the step, or that the engine is halted or faulted. -/
inductive StepReturn where
  | cycles (n : Nat)
  | halted
  | faulted
  deriving DecidableEq, Repr

/-- The return of the step from `s` to `t`: the fault's context is in `t.fault` (R263). DEDUCED (log entry 7), safe. -/
def stepReturn (s t : State) : StepReturn :=
  match t.engine with
  | .ready => .cycles (t.cycles - s.cycles)
  | .halted => .halted
  | .faulted => .faulted

/-- The two status views (R39, R40). -/
inductive StatusView where
  | compact
  | full
  deriving DecidableEq, Repr

/-- The letter of a bit in the FULL view (R40). -/
def statusLetter (bit : Nat) : Char := ['C', 'Z', 'I', 'D', 'B', '_', 'V', 'N'].getD bit '0'

/-- One character of a view: the bit as stored, or the letter, with the unused bit always `_` (R39, R40). -/
def statusChar (view : StatusView) (p : Byte) (bit : Nat) : Char :=
  match view with
  | .compact => if testBit p bit then '1' else '0'
  | .full => if bit = 5 then '_' else if testBit p bit then statusLetter bit else '0'

/-- The characters of a view, bit 7 first (R39, R40, D27). -/
def statusChars (view : StatusView) (p : Byte) : List Char :=
  [statusChar view p 7, statusChar view p 6, statusChar view p 5, statusChar view p 4,
    statusChar view p 3, statusChar view p 2, statusChar view p 1, statusChar view p 0]

/-- `showStatus(view)` (R39, R40). -/
def State.showStatus (s : State) (view : StatusView) : String := String.ofList (statusChars view s.p)

end Sys2Proof.Machine
end

