-- ==== Sys2Proof/Machine/Session.lean ====
section
/-! DEFINITION. The session of a host with one chip instance: which calls are admitted, and when (spec/20_memory.md R84,
spec/70_reset_and_hazards.md R304, U11). Whether the load has completed is no state of the chip (R20), so it stands beside
State. -/

namespace Sys2Proof.Machine

/-- An emulation session: the chip, and whether its one load has completed. -/
structure Session where
  chip : State
  loaded : Bool
  deriving DecidableEq, Repr

/-- What the host does next. -/
inductive SessionCall where
  | step
  | host (c : HostCall)
  deriving DecidableEq, Repr

/-- A session begins with a constructed chip and nothing loaded (R303, R304). -/
def beginSession (chip : State) : Session where
  chip := chip
  loaded := false

/-- What a session answers, from what its chip answered. -/
def Session.answer (e : Session) (out : Out) : Host.Outcome Session Fault Refusal :=
  match out with
  | .next t => .next { e with chip := t }
  | .fault f => .fault f
  | .refused r => .refused r

/-- Load is one-shot: a second one is refused, and with it every load after a step (R84). -/
def Session.load (e : Session) (bytes : List Byte) (origin : Word) : Host.Outcome Session Fault Refusal :=
  if e.loaded then .refused .loadRepeated
  else { e with loaded := true }.answer (hostCall (.load bytes origin) e.chip)

/-- A step is refused until the load has completed (R84, U11). -/
def Session.step (k : Parameters) (e : Session) : Host.Outcome Session Fault Refusal :=
  if e.loaded then e.answer (stepWith k e.chip) else .refused .stepBeforeLoad

/-- One call in a session; the calls that neither load nor step are admitted at any time between steps (R15, R300). -/
def sessionCall (k : Parameters) (c : SessionCall) (e : Session) : Host.Outcome Session Fault Refusal :=
  match c with
  | .step => e.step k
  | .host (.load bytes origin) => e.load bytes origin
  | .host .reset => e.answer (hostCall .reset e.chip)
  | .host .signalNmi => e.answer (hostCall .signalNmi e.chip)
  | .host (.setIrq level) => e.answer (hostCall (.setIrq level) e.chip)
  | .host .requestHalt => e.answer (hostCall .requestHalt e.chip)
  | .host (.setFlag bit value) => e.answer (hostCall (.setFlag bit value) e.chip)

end Sys2Proof.Machine
end

