-- ==== Sys2Proof/Safety.lean ====
section
/-! DEFINITION. What counts as a safe run, the invariant of the state, and the words the claims are stated in. -/

namespace Sys2Proof.Machine

/-- A state that is not a failed end of a run: the engine is not faulted (R260, R305: "A model treats a run that reaches
`Faulted` as a failed run, never as a successful end"). -/
def State.safe (s : State) : Bool := decide (s.engine ≠ .faulted)

/-- `k` steps, each from a state that could step, all of them safe (R305: the engine is left ready or halted). -/
def runSafe : Nat → State → Bool
  | 0, s => s.safe
  | k + 1, s =>
    s.safe &&
      match step s with
      | .next t => runSafe k t
      | .fault _ => true
      | .refused _ => false

/-- R41, R42, R260: the engine is faulted exactly when a fault is recorded, and the record holds an undefined opcode, the
`PC` and the cycle count, neither of which has changed since. -/
def faultConsistent (s : State) : Bool :=
  match s.fault with
  | none => decide (s.engine ≠ .faulted)
  | some r =>
    decide (s.engine = .faulted) && decide (r.pc = s.pc) && decide (r.cycles = s.cycles) && (lookup r.opcode).isNone

/-- The invariant of the model: memory is in its canonical form and the fault record agrees with the engine. -/
def State.inv (s : State) : Bool := Memory.wf s.mem && faultConsistent s

/-- The eight bits of `P` (R26), side by side. -/
structure Flags where
  n : Bool
  v : Bool
  u : Bool
  b : Bool
  d : Bool
  i : Bool
  z : Bool
  c : Bool
  deriving DecidableEq, Repr

/-- The bits of a status byte (R26): bit 0 is C, 1 Z, 2 I, 3 D, 4 B, 5 U, 6 V, 7 N. -/
def flagsOf (p : Byte) : Flags where
  n := p.getLsbD 7
  v := p.getLsbD 6
  u := p.getLsbD 5
  b := p.getLsbD 4
  d := p.getLsbD 3
  i := p.getLsbD 2
  z := p.getLsbD 1
  c := p.getLsbD 0

/-- The state a program does not reach: the engine, the fault, the interrupt inputs and the halt request. -/
def SameControl (s t : State) : Prop :=
  t.engine = s.engine ∧ t.fault = s.fault ∧ t.nmiPending = s.nmiPending ∧ t.irqLine = s.irqLine ∧
    t.haltRequest = s.haltRequest

/-- Every byte of memory reads as before. -/
def SameMemory (s t : State) : Prop := ∀ addr : Word, t.read8 addr = s.read8 addr

/-- Every byte of memory but the one at `ea` reads as before. -/
def SameMemoryBut (s t : State) (ea : Word) : Prop := ∀ addr : Word, addr ≠ ea → t.read8 addr = s.read8 addr

/-- `PC` has moved on by `len` bytes mod 65536 (R24) and `cycles` by `n` (R320). -/
def Advances (s t : State) (len n : Nat) : Prop :=
  t.pc.toNat = (s.pc.toNat + len) % 65536 ∧ t.cycles = s.cycles + n

/-- The signed value of a byte, `b - 256·b[7]` (R181). -/
def signedValue (b : Byte) : Int := if b.toNat < 128 then (b.toNat : Int) else (b.toNat : Int) - 256

end Sys2Proof.Machine
end

