-- ==== Sys2Proof/Certificates/Slice0/Obligations.lean ====
section
/-! DEFINITION. The statements for the provers, each from the numbered rules of spec/. Before them, the forms of the
instructions as the rules list them (opcode, mode, base cycles, page-cross flag) and what it is for a form to run.
An operand byte is `b` and a 16-bit operand `w` throughout, so a statement holds for every operand. -/

namespace Sys2Proof.Claims

open Sys2Proof.Machine

/-- A form that reads an operand. -/
structure ReadForm where
  opcode : Byte
  instr : Instr
  operand : Operand
  base : Nat
  extra : Bool

/-- A form that stores a register. -/
structure StoreForm where
  opcode : Byte
  instr : Instr
  mode : AddrMode
  base : Nat
  extra : Bool

/-- A form that reads a location and writes it back. -/
structure ModifyForm where
  opcode : Byte
  instr : Instr
  location : Location
  base : Nat
  extra : Bool

/-- The forms of LDA (R150). -/
def ldaForms (b : Byte) (w : Word) : List ReadForm := [
  ⟨0xA1, .ldaIndX b, .memory (.indexedIndirect b), 6, false⟩,
  ⟨0xA5, .ldaZp b, .memory (.zeroPage b), 3, false⟩,
  ⟨0xA9, .ldaImm b, .immediate b, 2, false⟩,
  ⟨0xAD, .ldaAbs w, .memory (.absolute w), 4, false⟩,
  ⟨0xB1, .ldaIndY b, .memory (.indirectIndexed b), 5, true⟩,
  ⟨0xB5, .ldaZpX b, .memory (.zeroPageX b), 4, false⟩,
  ⟨0xB9, .ldaAbsY w, .memory (.absoluteY w), 4, true⟩,
  ⟨0xBD, .ldaAbsX w, .memory (.absoluteX w), 4, true⟩]

/-- The forms of LDX (R151). -/
def ldxForms (b : Byte) (w : Word) : List ReadForm := [
  ⟨0xA2, .ldxImm b, .immediate b, 2, false⟩,
  ⟨0xA6, .ldxZp b, .memory (.zeroPage b), 3, false⟩,
  ⟨0xAE, .ldxAbs w, .memory (.absolute w), 4, false⟩,
  ⟨0xB6, .ldxZpY b, .memory (.zeroPageY b), 4, false⟩,
  ⟨0xBE, .ldxAbsY w, .memory (.absoluteY w), 4, true⟩]

/-- The forms of LDY (R152). -/
def ldyForms (b : Byte) (w : Word) : List ReadForm := [
  ⟨0xA0, .ldyImm b, .immediate b, 2, false⟩,
  ⟨0xA4, .ldyZp b, .memory (.zeroPage b), 3, false⟩,
  ⟨0xAC, .ldyAbs w, .memory (.absolute w), 4, false⟩,
  ⟨0xB4, .ldyZpX b, .memory (.zeroPageX b), 4, false⟩,
  ⟨0xBC, .ldyAbsX w, .memory (.absoluteX w), 4, true⟩]

/-- The forms of ADC (R170). -/
def adcForms (b : Byte) (w : Word) : List ReadForm := [
  ⟨0x61, .adcIndX b, .memory (.indexedIndirect b), 6, false⟩,
  ⟨0x65, .adcZp b, .memory (.zeroPage b), 3, false⟩,
  ⟨0x69, .adcImm b, .immediate b, 2, false⟩,
  ⟨0x6D, .adcAbs w, .memory (.absolute w), 4, false⟩,
  ⟨0x71, .adcIndY b, .memory (.indirectIndexed b), 5, true⟩,
  ⟨0x75, .adcZpX b, .memory (.zeroPageX b), 4, false⟩,
  ⟨0x79, .adcAbsY w, .memory (.absoluteY w), 4, true⟩,
  ⟨0x7D, .adcAbsX w, .memory (.absoluteX w), 4, true⟩]

/-- The forms of SBC (R171). -/
def sbcForms (b : Byte) (w : Word) : List ReadForm := [
  ⟨0xE1, .sbcIndX b, .memory (.indexedIndirect b), 6, false⟩,
  ⟨0xE5, .sbcZp b, .memory (.zeroPage b), 3, false⟩,
  ⟨0xE9, .sbcImm b, .immediate b, 2, false⟩,
  ⟨0xED, .sbcAbs w, .memory (.absolute w), 4, false⟩,
  ⟨0xF1, .sbcIndY b, .memory (.indirectIndexed b), 5, true⟩,
  ⟨0xF5, .sbcZpX b, .memory (.zeroPageX b), 4, false⟩,
  ⟨0xF9, .sbcAbsY w, .memory (.absoluteY w), 4, true⟩,
  ⟨0xFD, .sbcAbsX w, .memory (.absoluteX w), 4, true⟩]

/-- The forms of CMP (R172). -/
def cmpForms (b : Byte) (w : Word) : List ReadForm := [
  ⟨0xC1, .cmpIndX b, .memory (.indexedIndirect b), 6, false⟩,
  ⟨0xC5, .cmpZp b, .memory (.zeroPage b), 3, false⟩,
  ⟨0xC9, .cmpImm b, .immediate b, 2, false⟩,
  ⟨0xCD, .cmpAbs w, .memory (.absolute w), 4, false⟩,
  ⟨0xD1, .cmpIndY b, .memory (.indirectIndexed b), 5, true⟩,
  ⟨0xD5, .cmpZpX b, .memory (.zeroPageX b), 4, false⟩,
  ⟨0xD9, .cmpAbsY w, .memory (.absoluteY w), 4, true⟩,
  ⟨0xDD, .cmpAbsX w, .memory (.absoluteX w), 4, true⟩]

/-- The forms of CPX (R173). -/
def cpxForms (b : Byte) (w : Word) : List ReadForm := [
  ⟨0xE0, .cpxImm b, .immediate b, 2, false⟩,
  ⟨0xE4, .cpxZp b, .memory (.zeroPage b), 3, false⟩,
  ⟨0xEC, .cpxAbs w, .memory (.absolute w), 4, false⟩]

/-- The forms of CPY (R174). -/
def cpyForms (b : Byte) (w : Word) : List ReadForm := [
  ⟨0xC0, .cpyImm b, .immediate b, 2, false⟩,
  ⟨0xC4, .cpyZp b, .memory (.zeroPage b), 3, false⟩,
  ⟨0xCC, .cpyAbs w, .memory (.absolute w), 4, false⟩]

/-- The forms of AND (R190). -/
def andForms (b : Byte) (w : Word) : List ReadForm := [
  ⟨0x21, .andIndX b, .memory (.indexedIndirect b), 6, false⟩,
  ⟨0x25, .andZp b, .memory (.zeroPage b), 3, false⟩,
  ⟨0x29, .andImm b, .immediate b, 2, false⟩,
  ⟨0x2D, .andAbs w, .memory (.absolute w), 4, false⟩,
  ⟨0x31, .andIndY b, .memory (.indirectIndexed b), 5, true⟩,
  ⟨0x35, .andZpX b, .memory (.zeroPageX b), 4, false⟩,
  ⟨0x39, .andAbsY w, .memory (.absoluteY w), 4, true⟩,
  ⟨0x3D, .andAbsX w, .memory (.absoluteX w), 4, true⟩]

/-- The forms of ORA (R191). -/
def oraForms (b : Byte) (w : Word) : List ReadForm := [
  ⟨0x01, .oraIndX b, .memory (.indexedIndirect b), 6, false⟩,
  ⟨0x05, .oraZp b, .memory (.zeroPage b), 3, false⟩,
  ⟨0x09, .oraImm b, .immediate b, 2, false⟩,
  ⟨0x0D, .oraAbs w, .memory (.absolute w), 4, false⟩,
  ⟨0x11, .oraIndY b, .memory (.indirectIndexed b), 5, true⟩,
  ⟨0x15, .oraZpX b, .memory (.zeroPageX b), 4, false⟩,
  ⟨0x19, .oraAbsY w, .memory (.absoluteY w), 4, true⟩,
  ⟨0x1D, .oraAbsX w, .memory (.absoluteX w), 4, true⟩]

/-- The forms of EOR (R192). -/
def eorForms (b : Byte) (w : Word) : List ReadForm := [
  ⟨0x41, .eorIndX b, .memory (.indexedIndirect b), 6, false⟩,
  ⟨0x45, .eorZp b, .memory (.zeroPage b), 3, false⟩,
  ⟨0x49, .eorImm b, .immediate b, 2, false⟩,
  ⟨0x4D, .eorAbs w, .memory (.absolute w), 4, false⟩,
  ⟨0x51, .eorIndY b, .memory (.indirectIndexed b), 5, true⟩,
  ⟨0x55, .eorZpX b, .memory (.zeroPageX b), 4, false⟩,
  ⟨0x59, .eorAbsY w, .memory (.absoluteY w), 4, true⟩,
  ⟨0x5D, .eorAbsX w, .memory (.absoluteX w), 4, true⟩]

/-- The forms of BIT (R193). -/
def bitForms (b : Byte) (w : Word) : List ReadForm := [
  ⟨0x24, .bitZp b, .memory (.zeroPage b), 3, false⟩,
  ⟨0x2C, .bitAbs w, .memory (.absolute w), 4, false⟩]

/-- The forms of STA (R153). -/
def staForms (b : Byte) (w : Word) : List StoreForm := [
  ⟨0x81, .staIndX b, .indexedIndirect b, 6, false⟩,
  ⟨0x85, .staZp b, .zeroPage b, 3, false⟩,
  ⟨0x8D, .staAbs w, .absolute w, 4, false⟩,
  ⟨0x91, .staIndY b, .indirectIndexed b, 6, false⟩,
  ⟨0x95, .staZpX b, .zeroPageX b, 4, false⟩,
  ⟨0x99, .staAbsY w, .absoluteY w, 5, false⟩,
  ⟨0x9D, .staAbsX w, .absoluteX w, 5, false⟩]

/-- The forms of STX (R154). -/
def stxForms (b : Byte) (w : Word) : List StoreForm := [
  ⟨0x86, .stxZp b, .zeroPage b, 3, false⟩,
  ⟨0x8E, .stxAbs w, .absolute w, 4, false⟩,
  ⟨0x96, .stxZpY b, .zeroPageY b, 4, false⟩]

/-- The forms of STY (R155). -/
def styForms (b : Byte) (w : Word) : List StoreForm := [
  ⟨0x84, .styZp b, .zeroPage b, 3, false⟩,
  ⟨0x8C, .styAbs w, .absolute w, 4, false⟩,
  ⟨0x94, .styZpX b, .zeroPageX b, 4, false⟩]

/-- The forms of INC (R175). -/
def incForms (b : Byte) (w : Word) : List ModifyForm := [
  ⟨0xE6, .incZp b, .memory (.zeroPage b), 5, false⟩,
  ⟨0xEE, .incAbs w, .memory (.absolute w), 6, false⟩,
  ⟨0xF6, .incZpX b, .memory (.zeroPageX b), 6, false⟩,
  ⟨0xFE, .incAbsX w, .memory (.absoluteX w), 7, false⟩]

/-- The forms of DEC (R176). -/
def decForms (b : Byte) (w : Word) : List ModifyForm := [
  ⟨0xC6, .decZp b, .memory (.zeroPage b), 5, false⟩,
  ⟨0xCE, .decAbs w, .memory (.absolute w), 6, false⟩,
  ⟨0xD6, .decZpX b, .memory (.zeroPageX b), 6, false⟩,
  ⟨0xDE, .decAbsX w, .memory (.absoluteX w), 7, false⟩]

/-- The forms of ASL (R194). -/
def aslForms (b : Byte) (w : Word) : List ModifyForm := [
  ⟨0x06, .aslZp b, .memory (.zeroPage b), 5, false⟩,
  ⟨0x0A, .aslAcc, .accumulator, 2, false⟩,
  ⟨0x0E, .aslAbs w, .memory (.absolute w), 6, false⟩,
  ⟨0x16, .aslZpX b, .memory (.zeroPageX b), 6, false⟩,
  ⟨0x1E, .aslAbsX w, .memory (.absoluteX w), 7, false⟩]

/-- The forms of LSR (R195). -/
def lsrForms (b : Byte) (w : Word) : List ModifyForm := [
  ⟨0x46, .lsrZp b, .memory (.zeroPage b), 5, false⟩,
  ⟨0x4A, .lsrAcc, .accumulator, 2, false⟩,
  ⟨0x4E, .lsrAbs w, .memory (.absolute w), 6, false⟩,
  ⟨0x56, .lsrZpX b, .memory (.zeroPageX b), 6, false⟩,
  ⟨0x5E, .lsrAbsX w, .memory (.absoluteX w), 7, false⟩]

/-- The forms of ROL (R196). -/
def rolForms (b : Byte) (w : Word) : List ModifyForm := [
  ⟨0x26, .rolZp b, .memory (.zeroPage b), 5, false⟩,
  ⟨0x2A, .rolAcc, .accumulator, 2, false⟩,
  ⟨0x2E, .rolAbs w, .memory (.absolute w), 6, false⟩,
  ⟨0x36, .rolZpX b, .memory (.zeroPageX b), 6, false⟩,
  ⟨0x3E, .rolAbsX w, .memory (.absoluteX w), 7, false⟩]

/-- The forms of ROR (R197). -/
def rorForms (b : Byte) (w : Word) : List ModifyForm := [
  ⟨0x66, .rorZp b, .memory (.zeroPage b), 5, false⟩,
  ⟨0x6A, .rorAcc, .accumulator, 2, false⟩,
  ⟨0x6E, .rorAbs w, .memory (.absolute w), 6, false⟩,
  ⟨0x76, .rorZpX b, .memory (.zeroPageX b), 6, false⟩,
  ⟨0x7E, .rorAbsX w, .memory (.absoluteX w), 7, false⟩]

/-- `i`, whose encoding begins with `opcode`, answers a next state: `PC` has moved past its `len` bytes, its cycles are
accounted, the engine and the host's inputs are as before, and `post` holds (R92, R320). -/
def Runs (opcode : Byte) (i : Instr) (len cycles : Nat) (s : State) (post : State → Prop) : Prop :=
  (encode i).head? = some opcode ∧ (encode i).length = len ∧
    ∃ t, exec i s = .next t ∧ Advances s t len cycles ∧ SameControl s t ∧ post t

/-- The cycles of a form whose base count, page-cross flag and page-cross report are given (R320). -/
def cyclesOf (base : Nat) (extra crossed : Bool) : Nat := if extra = true ∧ crossed = true then base + 1 else base

/-- A reading form runs (R121, R320). -/
def ReadForm.Runs (f : ReadForm) (s : State) (post : State → Prop) : Prop :=
  Claims.Runs f.opcode f.instr (1 + f.operand.bytes) (cyclesOf f.base f.extra (f.operand.crossed s)) s post

/-- A modifying form runs (R121, R320). -/
def ModifyForm.Runs (f : ModifyForm) (s : State) (post : State → Prop) : Prop :=
  Claims.Runs f.opcode f.instr (1 + f.location.bytes) (cyclesOf f.base f.extra (f.location.crossed s)) s post

/-- A storing form runs (R121, R320). -/
def StoreForm.Runs (f : StoreForm) (s : State) (post : State → Prop) : Prop :=
  Claims.Runs f.opcode f.instr (1 + f.mode.bytes) (cyclesOf f.base f.extra (resolve f.mode s).pageCrossed) s post

/-- `A`, `X`, `Y` and `SP` hold these values. -/
def Regs (t : State) (a x y sp : Byte) : Prop := t.a = a ∧ t.x = x ∧ t.y = y ∧ t.sp = sp

/-- Z and N from an 8-bit result, no other flag (R29). -/
def znOf (f : Flags) (r : Nat) : Flags := { f with z := decide (r = 0), n := decide (128 ≤ r) }

/-- The carry as a number. -/
def carryOf (s : State) : Nat := (flagsOf s.p).c.toNat

/-- The location holds `r` and every other register and byte of memory is as before: `A` in Accumulator mode, else the
byte at the resolved address (R121). -/
def Stored (l : Location) (s t : State) (r : Nat) : Prop :=
  t.x = s.x ∧ t.y = s.y ∧ t.sp = s.sp ∧
    match l with
    | .accumulator => t.a.toNat = r ∧ SameMemory s t
    | .memory m => t.a = s.a ∧ (t.read8 (resolve m s).ea).toNat = r ∧ SameMemoryBut s t (resolve m s).ea

/-- Nothing keeps the next step of the ready engine from fetching (R92, R266). -/
def Fetches (s : State) : Prop :=
  s.engine = .ready ∧ s.haltRequest = false ∧ s.nmiPending = false ∧ (s.irqLine = true → (flagsOf s.p).i = true)

/-- The 105 undefined opcode bytes (R97). -/
def undefinedOpcodes : List Byte := [
  0x02, 0x03, 0x04, 0x07, 0x0B, 0x0C, 0x0F, 0x12, 0x13, 0x14, 0x17, 0x1A, 0x1B, 0x1C, 0x1F, 0x22, 0x23, 0x27,
  0x2B, 0x2F, 0x32, 0x33, 0x34, 0x37, 0x3A, 0x3B, 0x3C, 0x3F, 0x42, 0x43, 0x44, 0x47, 0x4B, 0x4F, 0x52, 0x53,
  0x54, 0x57, 0x5A, 0x5B, 0x5C, 0x5F, 0x62, 0x63, 0x64, 0x67, 0x6B, 0x6F, 0x72, 0x73, 0x74, 0x77, 0x7A, 0x7B,
  0x7C, 0x7F, 0x80, 0x82, 0x83, 0x87, 0x89, 0x8B, 0x8F, 0x92, 0x93, 0x97, 0x9B, 0x9C, 0x9E, 0x9F, 0xA3, 0xA7,
  0xAB, 0xAF, 0xB2, 0xB3, 0xB7, 0xBB, 0xBF, 0xC2, 0xC3, 0xC7, 0xCB, 0xCF, 0xD2, 0xD3, 0xD4, 0xD7, 0xDA, 0xDB,
  0xDC, 0xDF, 0xE2, 0xE3, 0xE7, 0xEB, 0xEF, 0xF2, 0xF3, 0xF4, 0xF7, 0xFA, 0xFB, 0xFC, 0xFF]

/-- `f` on the state of a next outcome; a fault or a refusal stays what it is. -/
def mapNext (f : State → State) : Out → Out
  | .next t => .next (f t)
  | .fault r => .fault r
  | .refused r => .refused r

/-- The state items no program reads, given other values: the engine, the fault record, `cycles` (moved by `k`) and the
host's inputs (R43, R47). -/
def rebook (e : Engine) (r : Option FaultRecord) (k : Nat) (nmi irq halt : Bool) (s : State) : State :=
  { s with engine := e, fault := r, cycles := s.cycles + k, nmiPending := nmi, irqLine := irq, haltRequest := halt }

/-- A conditional branch: its opcode, its instruction for a displacement, and the condition on the flags (R211-R218). -/
structure BranchForm where
  opcode : Byte
  make : Byte → Instr
  cond : Flags → Bool

/-- The eight branches (R211-R218). -/
def branchForms : List BranchForm := [
  ⟨0x10, .bpl, fun f => !f.n⟩, ⟨0x30, .bmi, fun f => f.n⟩,
  ⟨0x50, .bvc, fun f => !f.v⟩, ⟨0x70, .bvs, fun f => f.v⟩,
  ⟨0x90, .bcc, fun f => !f.c⟩, ⟨0xB0, .bcs, fun f => f.c⟩,
  ⟨0xD0, .bne, fun f => !f.z⟩, ⟨0xF0, .beq, fun f => f.z⟩]

/-- A flag instruction: its opcode, and what it makes of the flags (R244-R250). -/
structure FlagForm where
  opcode : Byte
  instr : Instr
  write : Flags → Flags

/-- The seven flag instructions (R244-R250). -/
def flagForms : List FlagForm := [
  ⟨0x18, .clc, fun f => { f with c := false }⟩, ⟨0x38, .sec, fun f => { f with c := true }⟩,
  ⟨0x58, .cli, fun f => { f with i := false }⟩, ⟨0x78, .sei, fun f => { f with i := true }⟩,
  ⟨0xD8, .cld, fun f => { f with d := false }⟩, ⟨0xF8, .sed, fun f => { f with d := true }⟩,
  ⟨0xB8, .clv, fun f => { f with v := false }⟩]

/-- `PC` high, `PC` low and the status, pushed from `SP` down; no other byte of memory has changed (R267, R269). -/
def PushedFrame (s t : State) (pc : Word) (status : Byte) : Prop :=
  (t.read8 (stackAddr s.sp)).toNat = pc.toNat / 256 ∧ (t.read8 (stackAddr (s.sp - 1))).toNat = pc.toNat % 256 ∧
    t.read8 (stackAddr (s.sp - 2)) = status ∧
    ∀ a : Word, a ≠ stackAddr s.sp → a ≠ stackAddr (s.sp - 1) → a ≠ stackAddr (s.sp - 2) → t.read8 a = s.read8 a

end Sys2Proof.Claims

open Sys2Proof Sys2Proof.Machine Sys2Proof.Claims

/-! Encoding. -/

/-- R90, R91, R96: decoding the encoding of any instruction, whatever bytes follow, gives it back and leaves those.
Rests on the spec's own choice D1. -/
def Obligations.DecodeOfEncode : Prop :=
  ∀ (i : Instr) (rest : List Byte), decode (encode i ++ rest) = .ok (i, rest)

/-- R90, R94: bytes that decode to an instruction are its encoding and then the bytes left over, so no two byte
sequences share an instruction and no bit is dropped. Rests on the spec's own choice D1. -/
def Obligations.EncodeOfDecode : Prop :=
  ∀ (bytes rest : List Byte) (i : Instr), decode bytes = .ok (i, rest) → bytes = encode i ++ rest

/-- R97, R99: exactly the 105 listed opcode bytes are refused, by name; with every other opcode every pair of
following bytes is accepted. Rests on the spec's own choice D1. -/
def Obligations.ExactlyTheListedOpcodesAreUndefined : Prop :=
  ∀ op b1 b2 : Byte,
    (op ∈ undefinedOpcodes → decode [op, b1, b2] = .error (.undefinedOpcode op)) ∧
    (op ∉ undefinedOpcodes → ∃ i rest, decode [op, b1, b2] = .ok (i, rest))

/-- R96: a word of each family, written out from the opcode map, decodes to its instruction (the model's own sanity).
Rests on the spec's own choice D1. -/
def Obligations.KnownWordsDecode : Prop :=
  ∀ (b lo hi : Byte) (rest : List Byte),
    decode (0xB1 :: b :: rest) = .ok (.ldaIndY b, rest) ∧
    decode (0x9D :: lo :: hi :: rest) = .ok (.staAbsX (hi ++ lo), rest) ∧
    decode (0x69 :: b :: rest) = .ok (.adcImm b, rest) ∧
    decode (0xCE :: lo :: hi :: rest) = .ok (.decAbs (hi ++ lo), rest) ∧
    decode (0x6A :: rest) = .ok (.rorAcc, rest) ∧
    decode (0x6C :: lo :: hi :: rest) = .ok (.jmpInd (hi ++ lo), rest) ∧
    decode (0xD0 :: b :: rest) = .ok (.bne b, rest) ∧
    decode (0x28 :: rest) = .ok (.plp, rest)

/-! The step. -/

/-- R92, R93: where nothing is pending and the bytes at `PC` decode to `i`, the step is `exec i`, which itself moves
`PC` past the instruction and accounts its cycles. Rests on the spec's own choice D15. -/
def Obligations.StepRunsDecodedInstruction : Prop :=
  ∀ (s : State) (i : Instr) (rest : List Byte), Fetches s →
    decode [s.read8 s.pc, s.read8 (s.pc + 1), s.read8 (s.pc + 2)] = .ok (i, rest) → step s = exec i s

/-- R97, R260: an undefined opcode at `PC` puts the engine in `faulted` with the opcode, `PC` and cycle count
recorded, and changes nothing else; after that no step is taken. That the fault is a next state, and that a step not
taken answers the outcome fault, is the model's form of them (log entry 3). Rests on the spec's own choices D1, D20,
D21. -/
def Obligations.StepFaultsOnUndefinedOpcode : Prop :=
  ∀ s : State, Fetches s → s.read8 s.pc ∈ undefinedOpcodes →
    ∃ t, step s = .next t ∧
      t = { s with engine := .faulted, fault := some ⟨s.read8 s.pc, s.pc, s.cycles⟩ } ∧
      step t = .fault (.stepWhileFaulted t.fault)

/-- R92, R267, R320, R321, R322: what a step returns to the caller: the 2 to 7 cycles it added, the engine ready; or
`Halted` or `Faulted`, the engine so, with `cycles` unchanged. That the return is read off the two states is the
model's form of it (log entry 7). The base counts behind the bounds are the spec's own too (log entry 11). Rests on
the spec's own choices D3, D14, D22. -/
def Obligations.StepReturnsItsCycles : Prop :=
  ∀ s t : State, step s = .next t →
    match stepReturn s t with
    | .cycles c => t.engine = .ready ∧ t.cycles = s.cycles + c ∧ 2 ≤ c ∧ c ≤ 7
    | .halted => t.engine = .halted ∧ t.cycles = s.cycles ∧ s.haltRequest = true
    | .faulted => t.engine = .faulted ∧ t.cycles = s.cycles ∧ t.fault = some ⟨s.read8 s.pc, s.pc, s.cycles⟩

/-- R41, R92, U9: in `halted` and in `faulted` no step is taken, whatever is pending; in `ready` every step answers a
next state. That a step not taken answers a fault is the model's form of it (log entry 3). Rests on the spec's own
choice D21. -/
def Obligations.StepEnabledOnlyWhenReady : Prop :=
  ∀ s : State,
    (s.engine = .halted → step s = .fault .stepWhileHalted) ∧
    (s.engine = .faulted → step s = .fault (.stepWhileFaulted s.fault)) ∧
    (s.engine = .ready → ∃ t, step s = .next t)

/-- R45, R266: the halt request comes before NMI, IRQ and the fetch; the engine is halted, the request cleared, and
nothing else changes. Rests on the spec's own choices D15, D22. -/
def Obligations.StepMeetsHaltRequestFirst : Prop :=
  ∀ s : State, s.engine = .ready → s.haltRequest = true →
    step s = .next { s with engine := .halted, haltRequest := false }

/-- R266, R267, R269: with no halt requested a pending NMI is served, whatever `P.I` and the IRQ line are: the frame
with bit 4 clear and bit 5 set, `SP - 3`, I set and no other flag, `PC` from $FFFA/$FFFB, 7 cycles, the latch cleared.
Rests on the spec's own choices D12, D13, D14, D15. -/
def Obligations.StepServicesNmi : Prop :=
  ∀ s : State, s.engine = .ready → s.haltRequest = false → s.nmiPending = true →
    ∃ t, step s = .next t ∧ PushedFrame s t s.pc ((s.p ||| 0x20) &&& 0xEF) ∧ Regs t s.a s.x s.y (s.sp - 3) ∧
      flagsOf t.p = { flagsOf s.p with i := true } ∧
      t.pc.toNat = (s.read8 0xFFFA).toNat + 256 * (s.read8 0xFFFB).toNat ∧ t.cycles = s.cycles + 7 ∧
      t.nmiPending = false ∧ t.engine = .ready ∧ t.fault = s.fault ∧ t.irqLine = s.irqLine ∧ t.haltRequest = false

/-- R265, R266, R267, R269: with no halt requested and no NMI pending, an IRQ is served when `P.I` is clear: the frame
with bit 4 clear and bit 5 set, `SP - 3`, I set and no other flag, `PC` from $FFFE/$FFFF, 7 cycles, the line as it
was. Rests on the spec's own choices D13, D14, D15. -/
def Obligations.StepServicesIrq : Prop :=
  ∀ s : State, s.engine = .ready → s.haltRequest = false → s.nmiPending = false → s.irqLine = true →
    (flagsOf s.p).i = false →
    ∃ t, step s = .next t ∧ PushedFrame s t s.pc ((s.p ||| 0x20) &&& 0xEF) ∧ Regs t s.a s.x s.y (s.sp - 3) ∧
      flagsOf t.p = { flagsOf s.p with i := true } ∧
      t.pc.toNat = (s.read8 0xFFFE).toNat + 256 * (s.read8 0xFFFF).toNat ∧ t.cycles = s.cycles + 7 ∧
      SameControl s t

/-- R265: while `P.I` is set the IRQ line has no effect on a step: the same step with the line at any level answers
the same, but for the line. Rests on the spec's own choices D13, D15. -/
def Obligations.MaskedIrqHasNoEffect : Prop :=
  ∀ (s : State) (level : Bool), (flagsOf s.p).i = true →
    step { s with irqLine := level } = mapNext (fun t => { t with irqLine := level }) (step s)

/-- R43, R47: no instruction reads the engine, the fault record, the cycle count or a host input, and none writes one
but for adding its cycles. Rests on the spec's own choices D13, D19, D20, D22. -/
def Obligations.InstructionsIgnoreBookkeeping : Prop :=
  ∀ (i : Instr) (s : State) (e : Engine) (r : Option FaultRecord) (k : Nat) (nmi irq halt : Bool),
    exec i (rebook e r k nmi irq halt s) = mapNext (rebook e r k nmi irq halt) (exec i s)

/-- R262, R320, R321, R322: once decoded, every instruction completes: it answers a next state, from every state, with
2 to 7 cycles accounted and the engine and the host's inputs as before. The base counts behind the bounds are the
spec's own (log entry 11). Rests on the spec's own choices D3, D13, D22. -/
def Obligations.EveryInstructionCompletes : Prop :=
  ∀ (i : Instr) (s : State), ∃ t, exec i s = .next t ∧ SameControl s t ∧
    s.cycles + 2 ≤ t.cycles ∧ t.cycles ≤ s.cycles + 7

/-- R95, R320: every instruction accounts its record's base cycles, at most one more where the record's page-cross
flag is set, and at most two more for a branch. Rests on the spec's own choices D3, D4. -/
def Obligations.CyclesFollowTheTable : Prop :=
  ∀ (i : Instr) (s t : State), exec i s = .next t →
    ∃ r, i.record = some r ∧ s.cycles + r.baseCycles ≤ t.cycles ∧
      t.cycles ≤ s.cycles + r.baseCycles + (if r.pageCrossExtra then 1 else 0) + (if r.mode = .relative then 2 else 0)

/-! Invariants and whole-machine rules. -/

/-- R41, R42, R60, R260: every step keeps memory in its canonical form and the fault record in agreement with the
engine. The canonical form is the model's (log entry 1). Rests on the spec's own choices D19, D20. -/
def Obligations.StepKeepsInvariant : Prop :=
  ∀ s t : State, s.inv = true → step s = .next t → t.inv = true

/-- R28, R44, R45, R83, R84, R264, R300: so does every call of the host. From every state, signalNMI sets the NMI
latch, setIRQ drives the IRQ line and the halt request is set, and each changes nothing else. In a session a step
before its load and a second load are refused by name. The canonical form is the model's (log entry 1), and so is the
session beside the chip (log entry 5). Rests on the spec's own choices D13, D17, D20, D22. -/
def Obligations.HostCallKeepsInvariant : Prop :=
  (∀ (c : HostCall) (s t : State), s.inv = true → hostCall c s = .next t → t.inv = true) ∧
    (∀ (s : State) (level : Bool),
      hostCall .signalNmi s = .next { s with nmiPending := true } ∧
      hostCall (.setIrq level) s = .next { s with irqLine := level } ∧
      hostCall .requestHalt s = .next { s with haltRequest := true }) ∧
    ∀ (k : Parameters) (e : Session) (bytes : List Byte) (origin : Word),
      (e.loaded = false → sessionCall k .step e = .refused .stepBeforeLoad) ∧
      (e.loaded = true → sessionCall k (.host (.load bytes origin)) e = .refused .loadRepeated)

/-- R46: the invariant holds at reset. The canonical form is the model's (log entry 1). Rests on the spec's own choice
D17. -/
def Obligations.ResetMeetsInvariant : Prop := State.reset.inv = true

/-- R27: no step clears the unused bit: where it is set it stays set. Rests on the spec's own choice D33. -/
def Obligations.StepKeepsUnusedBitSet : Prop :=
  ∀ s t : State, (flagsOf s.p).u = true → step s = .next t → (flagsOf t.p).u = true

/-- R21, R22, R25: the writers of `A`, `X`, `Y` and `SP`: an instruction that changes one is in its list. -/
def Obligations.RegistersChangeOnlyByTheirWriters : Prop :=
  ∀ (i : Instr) (s t : State), exec i s = .next t →
    (t.a ≠ s.a → i.mnemonic ∈ ["LDA", "TXA", "TYA", "PLA", "ADC", "SBC", "AND", "ORA", "EOR"] ∨
      i ∈ [Instr.aslAcc, .lsrAcc, .rolAcc, .rorAcc]) ∧
    (t.x ≠ s.x → i.mnemonic ∈ ["LDX", "TAX", "TSX", "INX", "DEX"]) ∧
    (t.y ≠ s.y → i.mnemonic ∈ ["LDY", "TAY", "INY", "DEY"]) ∧
    (t.sp ≠ s.sp → i.mnemonic ∈ ["TXS", "PHA", "PHP", "PLA", "PLP", "JSR", "RTS", "RTI", "BRK"])

/-- R27, R30-R36: the writers of each flag: an instruction that changes one is in its list. Rests on the spec's own
choices D11, D33. -/
def Obligations.FlagsChangeOnlyByTheirWriters : Prop :=
  ∀ (i : Instr) (s t : State), exec i s = .next t →
    ((flagsOf t.p).c ≠ (flagsOf s.p).c → i.mnemonic ∈
      ["ADC", "SBC", "CMP", "CPX", "CPY", "ASL", "LSR", "ROL", "ROR", "CLC", "SEC", "PLP", "RTI"]) ∧
    ((flagsOf t.p).z ≠ (flagsOf s.p).z → i.mnemonic ∈
      ["LDA", "LDX", "LDY", "TAX", "TAY", "TXA", "TYA", "TSX", "PLA", "ADC", "SBC", "AND", "ORA", "EOR", "INC", "DEC",
        "INX", "INY", "DEX", "DEY", "ASL", "LSR", "ROL", "ROR", "CMP", "CPX", "CPY", "BIT", "PLP", "RTI"]) ∧
    ((flagsOf t.p).i ≠ (flagsOf s.p).i → i.mnemonic ∈ ["SEI", "CLI", "PLP", "RTI", "BRK"]) ∧
    ((flagsOf t.p).d ≠ (flagsOf s.p).d → i.mnemonic ∈ ["SED", "CLD", "PLP", "RTI"]) ∧
    ((flagsOf t.p).b ≠ (flagsOf s.p).b → i.mnemonic ∈ ["PLP", "RTI"]) ∧
    ((flagsOf t.p).u ≠ (flagsOf s.p).u → i.mnemonic ∈ ["PLP", "RTI"]) ∧
    ((flagsOf t.p).v ≠ (flagsOf s.p).v → i.mnemonic ∈ ["ADC", "SBC", "BIT", "CLV", "PLP", "RTI"]) ∧
    ((flagsOf t.p).n ≠ (flagsOf s.p).n → i.mnemonic ∈
      ["LDA", "LDX", "LDY", "TAX", "TAY", "TXA", "TYA", "TSX", "PLA", "ADC", "SBC", "AND", "ORA", "EOR", "INC", "DEC",
        "INX", "INY", "DEX", "DEY", "ASL", "LSR", "ROL", "ROR", "CMP", "CPX", "CPY", "BIT", "PLP", "RTI"])

/-- R73, R153-R155, R175, R176, R194-R197, R220, R222, R240, R241: an instruction that changes a byte of memory is a
store, a read-modify-write in a memory mode, a push, JSR or BRK. -/
def Obligations.MemoryChangesOnlyByItsWriters : Prop :=
  ∀ (i : Instr) (s t : State) (addr : Word), exec i s = .next t → t.read8 addr ≠ s.read8 addr →
    i.mnemonic ∈ ["STA", "STX", "STY", "INC", "DEC", "ASL", "LSR", "ROL", "ROR", "PHA", "PHP", "JSR", "BRK"] ∧
    i ∉ [Instr.aslAcc, .lsrAcc, .rolAcc, .rorAcc]

/-! Memory and addressing. -/

/-- R64, R65, R66: the three word reads: `addr + 1` wraps mod 65536, within the pointer's page, and within the zero
page. Rests on the spec's own choice D6. -/
def Obligations.PointerReadsWrapAsStated : Prop :=
  ∀ (s : State) (addr : Word) (zp : Byte),
    (s.read16 addr).toNat = (s.read8 addr).toNat +
      256 * (s.read8 (BitVec.ofNat 16 ((addr.toNat + 1) % 65536))).toNat ∧
    (s.readPtrBug addr).toNat = (s.read8 addr).toNat +
      256 * (s.read8 (BitVec.ofNat 16 (addr.toNat / 256 * 256 + (addr.toNat + 1) % 256))).toNat ∧
    (s.readPtrZP zp).toNat = (s.read8 (BitVec.ofNat 16 zp.toNat)).toNat +
      256 * (s.read8 (BitVec.ofNat 16 ((zp.toNat + 1) % 256))).toNat

/-- R125, R126, R127, R133, R135: the zero-page modes stay in the zero page, (zero-page,X) takes its pointer from
there, and none of them crosses a page. Rests on the spec's own choices D5, D6. -/
def Obligations.ZeroPageModesResolve : Prop :=
  ∀ (s : State) (b : Byte),
    (resolve (.zeroPage b) s).ea.toNat = b.toNat ∧
    (resolve (.zeroPageX b) s).ea.toNat = (b.toNat + s.x.toNat) % 256 ∧
    (resolve (.zeroPageY b) s).ea.toNat = (b.toNat + s.y.toNat) % 256 ∧
    (resolve (.indexedIndirect b) s).ea.toNat =
      (s.read8 (BitVec.ofNat 16 ((b.toNat + s.x.toNat) % 256))).toNat +
        256 * (s.read8 (BitVec.ofNat 16 ((b.toNat + s.x.toNat + 1) % 256))).toNat ∧
    (resolve (.zeroPage b) s).pageCrossed = false ∧ (resolve (.zeroPageX b) s).pageCrossed = false ∧
    (resolve (.zeroPageY b) s).pageCrossed = false ∧ (resolve (.indexedIndirect b) s).pageCrossed = false

/-- R129, R130, R131, R134, R135: the absolute modes and (zero-page),Y add the index mod 65536, and cross a page
exactly when the sum lies in another page than the base. Rests on the spec's own choice D6. -/
def Obligations.AbsoluteModesResolve : Prop :=
  ∀ (s : State) (w : Word) (b : Byte),
    (resolve (.absolute w) s).ea = w ∧ (resolve (.absolute w) s).pageCrossed = false ∧
    (resolve (.absoluteX w) s).ea.toNat = (w.toNat + s.x.toNat) % 65536 ∧
    (resolve (.absoluteX w) s).pageCrossed = decide ((w.toNat + s.x.toNat) % 65536 / 256 ≠ w.toNat / 256) ∧
    (resolve (.absoluteY w) s).ea.toNat = (w.toNat + s.y.toNat) % 65536 ∧
    (resolve (.absoluteY w) s).pageCrossed = decide ((w.toNat + s.y.toNat) % 65536 / 256 ≠ w.toNat / 256) ∧
    (resolve (.indirectIndexed b) s).ea.toNat = ((s.readPtrZP b).toNat + s.y.toNat) % 65536 ∧
    (resolve (.indirectIndexed b) s).pageCrossed =
      decide (((s.readPtrZP b).toNat + s.y.toNat) % 65536 / 256 ≠ (s.readPtrZP b).toNat / 256)

/-! Loads, stores and transfers. -/

/-- R150: LDA, all eight forms: `A <- M`, Z and N from it, no other register, flag or byte of memory. -/
def Obligations.LdaLoadsAccumulator : Prop :=
  ∀ (b : Byte) (w : Word) (s : State), ∀ f ∈ ldaForms b w,
    f.Runs s fun t =>
      Regs t (f.operand.value s) s.x s.y s.sp ∧ SameMemory s t ∧
        flagsOf t.p = znOf (flagsOf s.p) (f.operand.value s).toNat

/-- R151: LDX, all five forms: `X <- M`, Z and N from it, nothing else. -/
def Obligations.LdxLoadsX : Prop :=
  ∀ (b : Byte) (w : Word) (s : State), ∀ f ∈ ldxForms b w,
    f.Runs s fun t =>
      Regs t s.a (f.operand.value s) s.y s.sp ∧ SameMemory s t ∧
        flagsOf t.p = znOf (flagsOf s.p) (f.operand.value s).toNat

/-- R152: LDY, all five forms: `Y <- M`, Z and N from it, nothing else. -/
def Obligations.LdyLoadsY : Prop :=
  ∀ (b : Byte) (w : Word) (s : State), ∀ f ∈ ldyForms b w,
    f.Runs s fun t =>
      Regs t s.a s.x (f.operand.value s) s.sp ∧ SameMemory s t ∧
        flagsOf t.p = znOf (flagsOf s.p) (f.operand.value s).toNat

/-- R153, R154, R155: STA (seven forms), STX and STY (three each): the byte at the resolved address is the register;
no other byte, no register and no flag changes. -/
def Obligations.StoresWriteTheirRegister : Prop :=
  ∀ (b : Byte) (w : Word) (s : State),
    (∀ f ∈ staForms b w, f.Runs s fun t =>
      t.read8 (resolve f.mode s).ea = s.a ∧ SameMemoryBut s t (resolve f.mode s).ea ∧
        Regs t s.a s.x s.y s.sp ∧ t.p = s.p) ∧
    (∀ f ∈ stxForms b w, f.Runs s fun t =>
      t.read8 (resolve f.mode s).ea = s.x ∧ SameMemoryBut s t (resolve f.mode s).ea ∧
        Regs t s.a s.x s.y s.sp ∧ t.p = s.p) ∧
    (∀ f ∈ styForms b w, f.Runs s fun t =>
      t.read8 (resolve f.mode s).ea = s.y ∧ SameMemoryBut s t (resolve f.mode s).ea ∧
        Regs t s.a s.x s.y s.sp ∧ t.p = s.p)

/-- R156-R161: TAX, TAY, TXA, TYA, TSX copy and set Z and N; TXS copies and sets no flag; nothing else changes. -/
def Obligations.TransfersCopyRegisters : Prop :=
  ∀ s : State,
    (Runs 0xAA .tax 1 2 s fun t => Regs t s.a s.a s.y s.sp ∧ SameMemory s t ∧
      flagsOf t.p = znOf (flagsOf s.p) s.a.toNat) ∧
    (Runs 0xA8 .tay 1 2 s fun t => Regs t s.a s.x s.a s.sp ∧ SameMemory s t ∧
      flagsOf t.p = znOf (flagsOf s.p) s.a.toNat) ∧
    (Runs 0x8A .txa 1 2 s fun t => Regs t s.x s.x s.y s.sp ∧ SameMemory s t ∧
      flagsOf t.p = znOf (flagsOf s.p) s.x.toNat) ∧
    (Runs 0x98 .tya 1 2 s fun t => Regs t s.y s.x s.y s.sp ∧ SameMemory s t ∧
      flagsOf t.p = znOf (flagsOf s.p) s.y.toNat) ∧
    (Runs 0xBA .tsx 1 2 s fun t => Regs t s.a s.sp s.y s.sp ∧ SameMemory s t ∧
      flagsOf t.p = znOf (flagsOf s.p) s.sp.toNat) ∧
    (Runs 0x9A .txs 1 2 s fun t => Regs t s.a s.x s.y s.x ∧ SameMemory s t ∧ t.p = s.p)

/-! Arithmetic and compare. -/

/-- R170, R181: ADC, all eight forms: `A` is the sum with carry mod 256, C the carry out of 255, V the signed overflow
by the rule's formula and, equally, by the signed sum leaving -128..127; Z and N; nothing else. -/
def Obligations.AdcAddsWithCarry : Prop :=
  ∀ (b : Byte) (w : Word) (s : State), ∀ f ∈ adcForms b w,
    f.Runs s fun t =>
      let m := f.operand.value s
      let sum := s.a.toNat + m.toNat + carryOf s
      let signed := signedValue s.a + signedValue m + (carryOf s : Int)
      t.a.toNat = sum % 256 ∧ Regs t t.a s.x s.y s.sp ∧ SameMemory s t ∧
        flagsOf t.p = { znOf (flagsOf s.p) (sum % 256) with
          c := decide (255 < sum), v := decide (signed < -128 ∨ 127 < signed) } ∧
        ((flagsOf t.p).v = true ↔ ((s.a ^^^ t.a) &&& (m ^^^ t.a) &&& 0x80) ≠ 0)

/-- R171, R181: SBC, all eight forms: `A` is the difference less the borrow mod 256, C is "no borrow", V the signed
overflow by the rule's formula and, equally, by the signed difference leaving -128..127; Z and N; nothing else. It
equals ADC of the complemented operand, in result and in every flag. -/
def Obligations.SbcSubtractsWithBorrow : Prop :=
  ∀ (b : Byte) (w : Word) (s : State), exec (.sbcImm b) s = exec (.adcImm (b ^^^ 0xFF)) s ∧
    ∀ f ∈ sbcForms b w, f.Runs s fun t =>
      let m := f.operand.value s
      let diff : Int := (s.a.toNat : Int) - (m.toNat : Int) - (1 - (carryOf s : Int))
      let signed := signedValue s.a - signedValue m - (1 - (carryOf s : Int))
      (t.a.toNat : Int) = diff % 256 ∧ Regs t t.a s.x s.y s.sp ∧ SameMemory s t ∧
        flagsOf t.p = { znOf (flagsOf s.p) t.a.toNat with
          c := decide (0 ≤ diff), v := decide (signed < -128 ∨ 127 < signed) } ∧
        ((flagsOf t.p).v = true ↔ ((s.a ^^^ m) &&& (s.a ^^^ t.a) &&& 0x80) ≠ 0)

/-- R182: the decimal flag alters no addition or subtraction: with D written either way ADC and SBC answer the same
state, but for D itself. -/
def Obligations.DecimalFlagIsInert : Prop :=
  ∀ (b : Byte) (w : Word) (d : Bool) (s : State), ∀ f ∈ adcForms b w ++ sbcForms b w,
    exec f.instr { s with p := putFlag s.p .d d } =
      mapNext (fun t => { t with p := putFlag t.p .d d }) (exec f.instr s)

/-- R172: CMP, all eight forms: C is `A >= M` unsigned, Z is `A = M`, N is bit 7 of the difference; nothing else
changes. -/
def Obligations.CmpComparesAccumulator : Prop :=
  ∀ (b : Byte) (w : Word) (s : State), ∀ f ∈ cmpForms b w,
    f.Runs s fun t =>
      let m := f.operand.value s
      Regs t s.a s.x s.y s.sp ∧ SameMemory s t ∧
        flagsOf t.p = { flagsOf s.p with
          c := decide (m.toNat ≤ s.a.toNat), z := decide (s.a = m),
          n := decide (128 ≤ (s.a.toNat + 256 - m.toNat) % 256) }

/-- R173, R174: CPX and CPY, three forms each: as CMP, with `X` and with `Y`. -/
def Obligations.CpxCpyCompareIndex : Prop :=
  ∀ (b : Byte) (w : Word) (s : State),
    (∀ f ∈ cpxForms b w, f.Runs s fun t =>
      Regs t s.a s.x s.y s.sp ∧ SameMemory s t ∧
        flagsOf t.p = { flagsOf s.p with
          c := decide ((f.operand.value s).toNat ≤ s.x.toNat), z := decide (s.x = f.operand.value s),
          n := decide (128 ≤ (s.x.toNat + 256 - (f.operand.value s).toNat) % 256) }) ∧
    (∀ f ∈ cpyForms b w, f.Runs s fun t =>
      Regs t s.a s.x s.y s.sp ∧ SameMemory s t ∧
        flagsOf t.p = { flagsOf s.p with
          c := decide ((f.operand.value s).toNat ≤ s.y.toNat), z := decide (s.y = f.operand.value s),
          n := decide (128 ≤ (s.y.toNat + 256 - (f.operand.value s).toNat) % 256) })

/-- R175, R176: INC and DEC, four forms each: the byte at the resolved address is one more or one less mod 256, Z and
N from it; no other byte, no register, no other flag. -/
def Obligations.IncDecModifyMemory : Prop :=
  ∀ (b : Byte) (w : Word) (s : State),
    (∀ f ∈ incForms b w, f.Runs s fun t =>
      let r := ((f.location.value s).toNat + 1) % 256
      Stored f.location s t r ∧ flagsOf t.p = znOf (flagsOf s.p) r) ∧
    (∀ f ∈ decForms b w, f.Runs s fun t =>
      let r := ((f.location.value s).toNat + 255) % 256
      Stored f.location s t r ∧ flagsOf t.p = znOf (flagsOf s.p) r)

/-- R177-R180: INX, INY, DEX, DEY: the index register one more or one less mod 256, Z and N from it, nothing else. -/
def Obligations.IndexRegistersCount : Prop :=
  ∀ s : State,
    (Runs 0xE8 .inx 1 2 s fun t => Regs t s.a t.x s.y s.sp ∧ t.x.toNat = (s.x.toNat + 1) % 256 ∧ SameMemory s t ∧
      flagsOf t.p = znOf (flagsOf s.p) ((s.x.toNat + 1) % 256)) ∧
    (Runs 0xC8 .iny 1 2 s fun t => Regs t s.a s.x t.y s.sp ∧ t.y.toNat = (s.y.toNat + 1) % 256 ∧ SameMemory s t ∧
      flagsOf t.p = znOf (flagsOf s.p) ((s.y.toNat + 1) % 256)) ∧
    (Runs 0xCA .dex 1 2 s fun t => Regs t s.a t.x s.y s.sp ∧ t.x.toNat = (s.x.toNat + 255) % 256 ∧ SameMemory s t ∧
      flagsOf t.p = znOf (flagsOf s.p) ((s.x.toNat + 255) % 256)) ∧
    (Runs 0x88 .dey 1 2 s fun t => Regs t s.a s.x t.y s.sp ∧ t.y.toNat = (s.y.toNat + 255) % 256 ∧ SameMemory s t ∧
      flagsOf t.p = znOf (flagsOf s.p) ((s.y.toNat + 255) % 256))

/-! Logic, shifts and rotates. -/

/-- R190, R191, R192: AND, ORA and EOR, all eight forms each: bit `k` of `A` is that of the operation, Z and N from
the result, nothing else. -/
def Obligations.LogicOperatesBitwise : Prop :=
  ∀ (b : Byte) (w : Word) (s : State),
    (∀ f ∈ andForms b w, f.Runs s fun t =>
      (∀ k < 8, t.a.getLsbD k = (s.a.getLsbD k && (f.operand.value s).getLsbD k)) ∧
        Regs t t.a s.x s.y s.sp ∧ SameMemory s t ∧ flagsOf t.p = znOf (flagsOf s.p) t.a.toNat) ∧
    (∀ f ∈ oraForms b w, f.Runs s fun t =>
      (∀ k < 8, t.a.getLsbD k = (s.a.getLsbD k || (f.operand.value s).getLsbD k)) ∧
        Regs t t.a s.x s.y s.sp ∧ SameMemory s t ∧ flagsOf t.p = znOf (flagsOf s.p) t.a.toNat) ∧
    (∀ f ∈ eorForms b w, f.Runs s fun t =>
      (∀ k < 8, t.a.getLsbD k = (s.a.getLsbD k != (f.operand.value s).getLsbD k)) ∧
        Regs t t.a s.x s.y s.sp ∧ SameMemory s t ∧ flagsOf t.p = znOf (flagsOf s.p) t.a.toNat)

/-- R193: BIT, both forms: Z from `A & M`, N and V from bits 7 and 6 of `M`, nothing else. -/
def Obligations.BitTestsMemory : Prop :=
  ∀ (b : Byte) (w : Word) (s : State), ∀ f ∈ bitForms b w,
    f.Runs s fun t =>
      let m := f.operand.value s
      Regs t s.a s.x s.y s.sp ∧ SameMemory s t ∧
        flagsOf t.p = { flagsOf s.p with
          z := decide (s.a &&& m = 0),
          n := decide (128 ≤ m.toNat), v := decide (64 ≤ m.toNat % 128) }

/-- R194: ASL, all five forms: the operand doubled mod 256, C its bit 7, Z and N from the result, nothing else. -/
def Obligations.AslShiftsLeft : Prop :=
  ∀ (b : Byte) (w : Word) (s : State), ∀ f ∈ aslForms b w,
    f.Runs s fun t =>
      let v := (f.location.value s).toNat
      Stored f.location s t (2 * v % 256) ∧
        flagsOf t.p = { znOf (flagsOf s.p) (2 * v % 256) with c := decide (128 ≤ v) }

/-- R195: LSR, all five forms: the operand halved, C its bit 0, Z from the result, N clear, nothing else. -/
def Obligations.LsrShiftsRight : Prop :=
  ∀ (b : Byte) (w : Word) (s : State), ∀ f ∈ lsrForms b w,
    f.Runs s fun t =>
      let v := (f.location.value s).toNat
      Stored f.location s t (v / 2) ∧
        flagsOf t.p = { flagsOf s.p with c := decide (v % 2 = 1), z := decide (v / 2 = 0), n := false }

/-- R196: ROL, all five forms: the operand doubled plus the prior carry mod 256, C its bit 7, Z and N, nothing else.
-/
def Obligations.RolRotatesLeft : Prop :=
  ∀ (b : Byte) (w : Word) (s : State), ∀ f ∈ rolForms b w,
    f.Runs s fun t =>
      let v := (f.location.value s).toNat
      Stored f.location s t ((2 * v + carryOf s) % 256) ∧
        flagsOf t.p = { znOf (flagsOf s.p) ((2 * v + carryOf s) % 256) with c := decide (128 ≤ v) }

/-- R197: ROR, all five forms: the operand halved with the prior carry as bit 7, C its bit 0, Z and N, nothing else.
-/
def Obligations.RorRotatesRight : Prop :=
  ∀ (b : Byte) (w : Word) (s : State), ∀ f ∈ rorForms b w,
    f.Runs s fun t =>
      let v := (f.location.value s).toNat
      Stored f.location s t (v / 2 + 128 * carryOf s) ∧
        flagsOf t.p = { znOf (flagsOf s.p) (v / 2 + 128 * carryOf s) with c := decide (v % 2 = 1) }

/-! Control flow. -/

/-- R128, R210-R218: the eight branches: taken exactly when the condition holds; then `PC` is the next instruction's
address plus the signed displacement mod 65536, with 3 cycles, 4 if that lies in another page than the next
instruction; else `PC + 2` and 2 cycles; no register, flag or byte of memory changes. -/
def Obligations.BranchesTestTheirFlag : Prop :=
  ∀ (d : Byte) (s : State), ∀ f ∈ branchForms,
    encode (f.make d) = [f.opcode, d] ∧
    ∃ t, exec (f.make d) s = .next t ∧ SameControl s t ∧ SameMemory s t ∧ Regs t s.a s.x s.y s.sp ∧ t.p = s.p ∧
      if f.cond (flagsOf s.p) = true then
        (t.pc.toNat : Int) = ((s.pc.toNat : Int) + 2 + signedValue d) % 65536 ∧
        t.cycles = s.cycles + (if t.pc.toNat / 256 = (s.pc.toNat + 2) % 65536 / 256 then 3 else 4)
      else Advances s t 2 2

/-- R65, R132, R219: JMP: `PC` is the operand, or the word at the pointer whose high byte is read from the pointer's
own page; 3 and 5 cycles; nothing else changes. -/
def Obligations.JmpSetsProgramCounter : Prop :=
  ∀ (w : Word) (s : State),
    encode (.jmpAbs w) = [0x4C, loByte w, hiByte w] ∧ encode (.jmpInd w) = [0x6C, loByte w, hiByte w] ∧
    exec (.jmpAbs w) s = .next { s with pc := w, cycles := s.cycles + 3 } ∧
    ∃ t, exec (.jmpInd w) s = .next t ∧ SameControl s t ∧ SameMemory s t ∧ Regs t s.a s.x s.y s.sp ∧ t.p = s.p ∧
      t.cycles = s.cycles + 5 ∧
      t.pc.toNat = (s.read8 w).toNat +
        256 * (s.read8 (BitVec.ofNat 16 (w.toNat / 256 * 256 + (w.toNat + 1) % 256))).toNat

/-- R70, R220: JSR pushes the address of its last byte, high byte first, and jumps; `SP - 2`; no other byte of memory,
no other register and no flag changes. Rests on the spec's own choices D9, D25. -/
def Obligations.JsrPushesReturnAddress : Prop :=
  ∀ (w : Word) (s : State),
    encode (.jsr w) = [0x20, loByte w, hiByte w] ∧
    ∃ t, exec (.jsr w) s = .next t ∧ SameControl s t ∧ Regs t s.a s.x s.y (s.sp - 2) ∧ t.p = s.p ∧ t.pc = w ∧
      t.cycles = s.cycles + 6 ∧
      (t.read8 (stackAddr s.sp)).toNat = (s.pc.toNat + 2) % 65536 / 256 ∧
      (t.read8 (stackAddr (s.sp - 1))).toNat = (s.pc.toNat + 2) % 65536 % 256 ∧
      ∀ a : Word, a ≠ stackAddr s.sp → a ≠ stackAddr (s.sp - 1) → t.read8 a = s.read8 a

/-- R70, R221: RTS pulls `PC` low and high and adds 1 mod 65536; `SP + 2`; no flag, no other register, no memory.
Rests on the spec's own choices D8, D9. -/
def Obligations.RtsPullsReturnAddress : Prop :=
  ∀ s : State, encode .rts = [0x60] ∧
    ∃ t, exec .rts s = .next t ∧ SameControl s t ∧ SameMemory s t ∧ Regs t s.a s.x s.y (s.sp + 2) ∧ t.p = s.p ∧
      t.cycles = s.cycles + 6 ∧
      t.pc.toNat =
        ((s.read8 (stackAddr (s.sp + 1))).toNat + 256 * (s.read8 (stackAddr (s.sp + 2))).toNat + 1) % 65536

/-- R220, R221, C3: an RTS right after a JSR comes back to the instruction after the JSR with `SP` as before, for
every `SP`, one that wraps included. Rests on the spec's own choice D9. -/
def Obligations.RtsUndoesJsr : Prop :=
  ∀ (w : Word) (s t u : State), exec (.jsr w) s = .next t → exec .rts t = .next u →
    u.pc.toNat = (s.pc.toNat + 3) % 65536 ∧ Regs u s.a s.x s.y s.sp ∧ u.p = s.p

/-- R37, R222, R267, R269: BRK pushes `pc0 + 2` high and low and the status with bits 4 and 5 set, sets I and no other
stored flag, takes `PC` from $FFFE/$FFFF, 7 cycles, whatever `P.I` is. The offset 2 is the parameter's default (log
entry 4). Rests on the spec's own choices D10, D11. -/
def Obligations.BrkTakesTheInterrupt : Prop :=
  ∀ s : State, encode .brk = [0x00] ∧
    ∃ t, exec .brk s = .next t ∧ SameControl s t ∧ PushedFrame s t (s.pc + 2) (s.p ||| 0x30) ∧
      Regs t s.a s.x s.y (s.sp - 3) ∧ flagsOf t.p = { flagsOf s.p with i := true } ∧
      t.pc.toNat = (s.read8 0xFFFE).toNat + 256 * (s.read8 0xFFFF).toNat ∧ t.cycles = s.cycles + 7

/-- R38, R223, R271: RTI pulls the status with the unused bit forced to 1, then `PC` low and high with no `+ 1`; `SP +
3`; nothing else is restored. -/
def Obligations.RtiRestoresStatusAndPc : Prop :=
  ∀ s : State, encode .rti = [0x40] ∧
    ∃ t, exec .rti s = .next t ∧ SameControl s t ∧ SameMemory s t ∧ Regs t s.a s.x s.y (s.sp + 3) ∧
      flagsOf t.p = { flagsOf (s.read8 (stackAddr (s.sp + 1))) with u := true } ∧
      t.pc.toNat = (s.read8 (stackAddr (s.sp + 2))).toNat + 256 * (s.read8 (stackAddr (s.sp + 3))).toNat ∧
      t.cycles = s.cycles + 6

/-- R223, R267, R271: an RTI right after an interrupt is served restores `PC`, `SP` and every flag, but for the unused
bit, which it forces to 1, and B, which takes the pushed bit: 1 from BRK, 0 from IRQ and NMI. Rests on the spec's own
choices D8, D11, D12. -/
def Obligations.RtiUndoesTheInterrupt : Prop :=
  ∀ (s u : State) (kind : InterruptKind), exec .rti (s.takeInterrupt kind) = .next u →
    u.pc = s.pc ∧ Regs u s.a s.x s.y s.sp ∧
      flagsOf u.p = { flagsOf s.p with u := true, b := decide (kind = .brk) }

/-! The stack and the flags. -/

/-- R67, R68, R240: PHA writes `A` at $0100 + `SP` and lowers `SP` by 1 mod 256; R37, R241: PHP writes the status with
bits 4 and 5 set; no other byte, no other register and no flag changes. -/
def Obligations.PhaPhpPush : Prop :=
  ∀ s : State,
    (stackAddr s.sp).toNat = 256 + s.sp.toNat ∧
    (Runs 0x48 .pha 1 3 s fun t => t.read8 (stackAddr s.sp) = s.a ∧ SameMemoryBut s t (stackAddr s.sp) ∧
      Regs t s.a s.x s.y t.sp ∧ t.sp.toNat = (s.sp.toNat + 255) % 256 ∧ t.p = s.p) ∧
    (Runs 0x08 .php 1 3 s fun t =>
      flagsOf (t.read8 (stackAddr s.sp)) = { flagsOf s.p with b := true, u := true } ∧
      SameMemoryBut s t (stackAddr s.sp) ∧ Regs t s.a s.x s.y t.sp ∧ t.sp.toNat = (s.sp.toNat + 255) % 256 ∧
      t.p = s.p)

/-- R69, R242: PLA raises `SP` by 1 mod 256 and loads `A` from there, Z and N from it; R38, R243: PLP loads `P` with
the unused bit forced to 1; nothing else changes. -/
def Obligations.PlaPlpPull : Prop :=
  ∀ s : State,
    (Runs 0x68 .pla 1 4 s fun t => Regs t (s.read8 (stackAddr (s.sp + 1))) s.x s.y t.sp ∧
      t.sp.toNat = (s.sp.toNat + 1) % 256 ∧ SameMemory s t ∧
      flagsOf t.p = znOf (flagsOf s.p) (s.read8 (stackAddr (s.sp + 1))).toNat) ∧
    (Runs 0x28 .plp 1 4 s fun t => Regs t s.a s.x s.y t.sp ∧ t.sp.toNat = (s.sp.toNat + 1) % 256 ∧ SameMemory s t ∧
      flagsOf t.p = { flagsOf (s.read8 (stackAddr (s.sp + 1))) with u := true })

/-- R69, R240, R242: a PLA that follows a PHA, with only `A` and `P` changed in between, restores `A` and `SP`. Rests
on the spec's own choice D8. -/
def Obligations.PlaUndoesPha : Prop :=
  ∀ (s t u : State) (a p : Byte), exec .pha s = .next t → exec .pla { t with a := a, p := p } = .next u →
    u.a = s.a ∧ u.sp = s.sp

/-- R244-R250: CLC, SEC, CLI, SEI, CLD, SED, CLV write their one flag, 2 cycles, and nothing else. -/
def Obligations.FlagInstructionsWriteOneFlag : Prop :=
  ∀ s : State, ∀ f ∈ flagForms,
    Runs f.opcode f.instr 1 2 s fun t =>
      Regs t s.a s.x s.y s.sp ∧ SameMemory s t ∧ flagsOf t.p = f.write (flagsOf s.p)

/-- R251: NOP only moves `PC` on by 1 mod 65536 and accounts 2 cycles. -/
def Obligations.NopOnlyAdvances : Prop :=
  ∀ s : State,
    encode .nop = [0xEA] ∧
    exec .nop s = .next { s with pc := BitVec.ofNat 16 (s.pc.toNat + 1), cycles := s.cycles + 2 }

/-! The host's calls. -/

/-- R300, R301: reset in any state: `PC` from $FFFC/$FFFD, `SP` = $FD, I and U alone set, `A = X = Y = 0`, the engine
ready, no fault, no pending NMI or halt; memory, `cycles` and the IRQ line as before. Rests on the spec's own choices
D17, D19, D32. -/
def Obligations.HostResetLeavesStatedValues : Prop :=
  ∀ s : State, ∃ t, hostCall .reset s = .next t ∧
    t.pc.toNat = (s.read8 0xFFFC).toNat + 256 * (s.read8 0xFFFD).toNat ∧ Regs t 0x00 0x00 0x00 0xFD ∧
    flagsOf t.p = ⟨false, false, true, false, false, true, false, false⟩ ∧ t.engine = .ready ∧ t.fault = none ∧
    t.nmiPending = false ∧ t.haltRequest = false ∧ t.mem = s.mem ∧ t.cycles = s.cycles ∧ t.irqLine = s.irqLine

/-- R83: load, by default at $8000, stores byte `i` at `origin + i` mod 65536, the later byte where two fall on one
address, changes no other byte and no register, flag, engine, fault or cycle count. That load has its effect from
every state, one after a step included, is the model's choice (log entry 5); a session admits it once, before any step
(R84). Rests on the spec's own choice D28. -/
def Obligations.HostLoadStoresTheImage : Prop :=
  ∀ (bytes : List Byte) (origin : Word) (s : State), ∃ t, hostCall (.load bytes origin) s = .next t ∧
    (∀ (i : Nat) (h : i < bytes.length),
      (∀ j, i < j → j < bytes.length → (origin.toNat + j) % 65536 ≠ (origin.toNat + i) % 65536) →
      t.read8 (BitVec.ofNat 16 (origin.toNat + i)) = bytes[i]) ∧
    (∀ a : Word, (∀ i < bytes.length, (origin.toNat + i) % 65536 ≠ a.toNat) → t.read8 a = s.read8 a) ∧
    hostCall (.load bytes) s = hostCall (.load bytes 0x8000) s ∧
    Regs t s.a s.x s.y s.sp ∧ t.p = s.p ∧ t.pc = s.pc ∧ t.cycles = s.cycles ∧ SameControl s t

/-- R28: `setFlag` with a bit in 0..7 writes that bit of `P` and no other, and nothing else; `isFlagSet` then reads
it; a bit outside 0..7 is refused by name. Rests on the spec's own choice D31. -/
def Obligations.HostSetFlagWritesOneBit : Prop :=
  ∀ (bit : Nat) (v : Bool) (s : State),
    (bit < 8 → ∃ t, hostCall (.setFlag bit v) s = .next t ∧ t = { s with p := t.p } ∧
      t.hostIsFlagSet bit = .ok v ∧ ∀ k < 8, k ≠ bit → t.p.getLsbD k = s.p.getLsbD k) ∧
    (8 ≤ bit → hostCall (.setFlag bit v) s = .refused (.flagBitOutOfRange bit) ∧
      s.hostIsFlagSet bit = .error (.flagBitOutOfRange bit))

/-- R39, R40: the views: `showStatus` answers eight characters, the one for bit 7 first; COMPACT prints each bit of
`P` as stored, FULL its letter when set, `0` when clear, and `_` for bit 5 whatever is stored. Rests on the spec's own
choice D27. -/
def Obligations.StatusViewsPrintTheBits : Prop :=
  (∀ (s : State) (view : StatusView), (s.showStatus view).toList = statusChars view s.p) ∧
  ∀ p : Byte, (statusChars .compact p).length = 8 ∧ (statusChars .full p).length = 8 ∧
    ∀ k < 8,
      (statusChars .compact p)[7 - k]? = some (if p.getLsbD k then '1' else '0') ∧
      (statusChars .full p)[7 - k]? =
        some (if k = 5 then '_' else if p.getLsbD k then
          (['C', 'Z', 'I', 'D', 'B', '_', 'V', 'N'])[k]?.getD '0' else '0')
end

