-- ==== Sys2Proof/Laws/Flags.lean ====
section
/-! SUPPORT. The bits of `P` after each write of it, and the byte-order helpers. -/

namespace Sys2Proof.Machine

theorem Flag.bit_inj {f g : Flag} (h : f.bit = g.bit) : f = g := by
  cases f <;> cases g <;> first | rfl | exact absurd h (by decide)

/-- One bit of `P` after `setBit`: the value at that bit, the old bit elsewhere (R28). -/
theorem testBit_setBit (p : Byte) {bit k : Nat} (hb : bit < 8) (hk : k < 8) (v : Bool) :
    testBit (setBit p bit v) k = if k = bit then v else testBit p k := by
  have all : ∀ p : BitVec 8, ∀ v : Bool, ∀ i j : Fin 8,
      (setBit p i.val v).getLsbD j.val = if j.val = i.val then v else p.getLsbD j.val := by
    intro p v i j
    fin_cases i <;> fin_cases j <;> cases v <;> simp [setBit]
  exact all p v ⟨bit, hb⟩ ⟨k, hk⟩

@[simp] theorem getFlag_putFlag (p : Byte) (f g : Flag) (v : Bool) :
    getFlag (putFlag p f v) g = if g = f then v else getFlag p g := by
  have hb : f.bit < 8 := by cases f <;> decide
  have hk : g.bit < 8 := by cases g <;> decide
  rw [getFlag, putFlag, testBit_setBit p hb hk]
  by_cases h : g = f
  · simp [h]
  · rw [if_neg (fun e => h (Flag.bit_inj e)), if_neg h]
    rfl

/-- R29: `setZN` writes Z and N and nothing else. -/
@[simp] theorem getFlag_setZN (v p : Byte) (g : Flag) :
    getFlag (setZN v p) g = if g = .n then v.getLsbD 7 else if g = .z then v == 0x00 else getFlag p g := by
  simp [setZN]

/-- R37: the pushed byte has bit 5 set, bit 4 as asked, and the other bits of `P`. -/
theorem getFlag_pushedP (brk : Bool) (p : Byte) (g : Flag) :
    getFlag (pushedP brk p) g = if g = .u then true else if g = .b then brk else getFlag p g := by
  cases g <;> cases brk <;> simp [pushedP, getFlag, testBit, Flag.bit]

/-- R38: the pulled byte has bit 5 forced to 1. -/
theorem getFlag_pulledP (b : Byte) (g : Flag) :
    getFlag (pulledP b) g = if g = .u then true else getFlag b g := by
  cases g <;> simp [pulledP, getFlag, testBit, Flag.bit]

/-- A status byte is its eight flags. -/
theorem eq_of_flags {p q : Byte} (h : ∀ f, getFlag p f = getFlag q f) : p = q := by
  have hf : ∀ k : Fin 8, p.getLsbD k.val = q.getLsbD k.val := by
    intro k
    fin_cases k
    exacts [h .c, h .z, h .i, h .d, h .b, h .u, h .v, h .n]
  exact BitVec.eq_of_getLsbD_eq fun i hi => hf ⟨i, hi⟩

theorem getLsbD_wordOf (lo hi : Byte) (i : Nat) :
    (wordOf lo hi).getLsbD i = if i < 8 then lo.getLsbD i else hi.getLsbD (i - 8) := by
  by_cases h8 : i < 8
  · have h16 : i < 16 := by omega
    simp [wordOf, zext16, h8, h16]
  · by_cases h16 : i < 16
    · simp [wordOf, zext16, h8, h16, BitVec.getLsbD_of_ge lo i (by omega)]
    · simp [h8, BitVec.getLsbD_of_ge hi (i - 8) (by omega), BitVec.getLsbD_of_ge (wordOf lo hi) i (by omega)]

theorem getLsbD_loByte (w : Word) {i : Nat} (h : i < 8) : (loByte w).getLsbD i = w.getLsbD i := by
  simp [loByte, h]

theorem getLsbD_hiByte (w : Word) {i : Nat} (h : i < 8) : (hiByte w).getLsbD i = w.getLsbD (8 + i) := by
  simp [hiByte, h]

@[simp] theorem loByte_wordOf (lo hi : Byte) : loByte (wordOf lo hi) = lo :=
  BitVec.eq_of_getLsbD_eq fun i h => by rw [getLsbD_loByte _ h, getLsbD_wordOf, if_pos h]

@[simp] theorem hiByte_wordOf (lo hi : Byte) : hiByte (wordOf lo hi) = hi :=
  BitVec.eq_of_getLsbD_eq fun i h => by
    rw [getLsbD_hiByte _ h, getLsbD_wordOf, if_neg (by omega), Nat.add_sub_cancel_left]

@[simp] theorem wordOf_loByte_hiByte (w : Word) : wordOf (loByte w) (hiByte w) = w :=
  BitVec.eq_of_getLsbD_eq fun i h => by
    rw [getLsbD_wordOf]
    split
    next h8 => exact getLsbD_loByte w h8
    next h8 => rw [getLsbD_hiByte w (by omega), Nat.add_sub_cancel' (by omega)]

theorem wordOf_toNat (lo hi : Byte) : (wordOf lo hi).toNat = lo.toNat + 256 * hi.toNat := by
  have hl := lo.isLt
  have hh := hi.isLt
  have hz : (zext16 hi <<< 8).toNat = hi.toNat <<< 8 := by
    simp only [zext16, BitVec.toNat_shiftLeft, BitVec.toNat_setWidth, Nat.shiftLeft_eq]
    omega
  have hlo : (zext16 lo).toNat = lo.toNat := by
    simp only [zext16, BitVec.toNat_setWidth]
    omega
  rw [wordOf, BitVec.toNat_or, hz, hlo, Nat.lor_comm, ← Nat.shiftLeft_add_eq_or_of_lt (by simpa using hl),
    Nat.shiftLeft_eq]
  omega

end Sys2Proof.Machine
end

