-- ==== Sys2Proof/Laws/State.lean ====
section
/-! SUPPORT. Beside State: one lemma for each field of each update of Machine/Ops.lean, so that no later proof unfolds a
record update. -/

namespace Sys2Proof.Machine

@[simp] theorem State.setA_a (s : State) (v : Byte) : (s.setA v).a = v := rfl
@[simp] theorem State.setA_x (s : State) (v : Byte) : (s.setA v).x = s.x := rfl
@[simp] theorem State.setA_y (s : State) (v : Byte) : (s.setA v).y = s.y := rfl
@[simp] theorem State.setA_sp (s : State) (v : Byte) : (s.setA v).sp = s.sp := rfl
@[simp] theorem State.setA_pc (s : State) (v : Byte) : (s.setA v).pc = s.pc := rfl
@[simp] theorem State.setA_p (s : State) (v : Byte) : (s.setA v).p = s.p := rfl
@[simp] theorem State.setA_mem (s : State) (v : Byte) : (s.setA v).mem = s.mem := rfl
@[simp] theorem State.setA_engine (s : State) (v : Byte) : (s.setA v).engine = s.engine := rfl
@[simp] theorem State.setA_fault (s : State) (v : Byte) : (s.setA v).fault = s.fault := rfl
@[simp] theorem State.setA_cycles (s : State) (v : Byte) : (s.setA v).cycles = s.cycles := rfl
@[simp] theorem State.setA_nmiPending (s : State) (v : Byte) : (s.setA v).nmiPending = s.nmiPending := rfl
@[simp] theorem State.setA_irqLine (s : State) (v : Byte) : (s.setA v).irqLine = s.irqLine := rfl
@[simp] theorem State.setA_haltRequest (s : State) (v : Byte) : (s.setA v).haltRequest = s.haltRequest := rfl

@[simp] theorem State.setX_a (s : State) (v : Byte) : (s.setX v).a = s.a := rfl
@[simp] theorem State.setX_x (s : State) (v : Byte) : (s.setX v).x = v := rfl
@[simp] theorem State.setX_y (s : State) (v : Byte) : (s.setX v).y = s.y := rfl
@[simp] theorem State.setX_sp (s : State) (v : Byte) : (s.setX v).sp = s.sp := rfl
@[simp] theorem State.setX_pc (s : State) (v : Byte) : (s.setX v).pc = s.pc := rfl
@[simp] theorem State.setX_p (s : State) (v : Byte) : (s.setX v).p = s.p := rfl
@[simp] theorem State.setX_mem (s : State) (v : Byte) : (s.setX v).mem = s.mem := rfl
@[simp] theorem State.setX_engine (s : State) (v : Byte) : (s.setX v).engine = s.engine := rfl
@[simp] theorem State.setX_fault (s : State) (v : Byte) : (s.setX v).fault = s.fault := rfl
@[simp] theorem State.setX_cycles (s : State) (v : Byte) : (s.setX v).cycles = s.cycles := rfl
@[simp] theorem State.setX_nmiPending (s : State) (v : Byte) : (s.setX v).nmiPending = s.nmiPending := rfl
@[simp] theorem State.setX_irqLine (s : State) (v : Byte) : (s.setX v).irqLine = s.irqLine := rfl
@[simp] theorem State.setX_haltRequest (s : State) (v : Byte) : (s.setX v).haltRequest = s.haltRequest := rfl

@[simp] theorem State.setY_a (s : State) (v : Byte) : (s.setY v).a = s.a := rfl
@[simp] theorem State.setY_x (s : State) (v : Byte) : (s.setY v).x = s.x := rfl
@[simp] theorem State.setY_y (s : State) (v : Byte) : (s.setY v).y = v := rfl
@[simp] theorem State.setY_sp (s : State) (v : Byte) : (s.setY v).sp = s.sp := rfl
@[simp] theorem State.setY_pc (s : State) (v : Byte) : (s.setY v).pc = s.pc := rfl
@[simp] theorem State.setY_p (s : State) (v : Byte) : (s.setY v).p = s.p := rfl
@[simp] theorem State.setY_mem (s : State) (v : Byte) : (s.setY v).mem = s.mem := rfl
@[simp] theorem State.setY_engine (s : State) (v : Byte) : (s.setY v).engine = s.engine := rfl
@[simp] theorem State.setY_fault (s : State) (v : Byte) : (s.setY v).fault = s.fault := rfl
@[simp] theorem State.setY_cycles (s : State) (v : Byte) : (s.setY v).cycles = s.cycles := rfl
@[simp] theorem State.setY_nmiPending (s : State) (v : Byte) : (s.setY v).nmiPending = s.nmiPending := rfl
@[simp] theorem State.setY_irqLine (s : State) (v : Byte) : (s.setY v).irqLine = s.irqLine := rfl
@[simp] theorem State.setY_haltRequest (s : State) (v : Byte) : (s.setY v).haltRequest = s.haltRequest := rfl

@[simp] theorem State.setSP_a (s : State) (v : Byte) : (s.setSP v).a = s.a := rfl
@[simp] theorem State.setSP_x (s : State) (v : Byte) : (s.setSP v).x = s.x := rfl
@[simp] theorem State.setSP_y (s : State) (v : Byte) : (s.setSP v).y = s.y := rfl
@[simp] theorem State.setSP_sp (s : State) (v : Byte) : (s.setSP v).sp = v := rfl
@[simp] theorem State.setSP_pc (s : State) (v : Byte) : (s.setSP v).pc = s.pc := rfl
@[simp] theorem State.setSP_p (s : State) (v : Byte) : (s.setSP v).p = s.p := rfl
@[simp] theorem State.setSP_mem (s : State) (v : Byte) : (s.setSP v).mem = s.mem := rfl
@[simp] theorem State.setSP_engine (s : State) (v : Byte) : (s.setSP v).engine = s.engine := rfl
@[simp] theorem State.setSP_fault (s : State) (v : Byte) : (s.setSP v).fault = s.fault := rfl
@[simp] theorem State.setSP_cycles (s : State) (v : Byte) : (s.setSP v).cycles = s.cycles := rfl
@[simp] theorem State.setSP_nmiPending (s : State) (v : Byte) : (s.setSP v).nmiPending = s.nmiPending := rfl
@[simp] theorem State.setSP_irqLine (s : State) (v : Byte) : (s.setSP v).irqLine = s.irqLine := rfl
@[simp] theorem State.setSP_haltRequest (s : State) (v : Byte) : (s.setSP v).haltRequest = s.haltRequest := rfl

@[simp] theorem State.setPC_a (s : State) (v : Word) : (s.setPC v).a = s.a := rfl
@[simp] theorem State.setPC_x (s : State) (v : Word) : (s.setPC v).x = s.x := rfl
@[simp] theorem State.setPC_y (s : State) (v : Word) : (s.setPC v).y = s.y := rfl
@[simp] theorem State.setPC_sp (s : State) (v : Word) : (s.setPC v).sp = s.sp := rfl
@[simp] theorem State.setPC_pc (s : State) (v : Word) : (s.setPC v).pc = v := rfl
@[simp] theorem State.setPC_p (s : State) (v : Word) : (s.setPC v).p = s.p := rfl
@[simp] theorem State.setPC_mem (s : State) (v : Word) : (s.setPC v).mem = s.mem := rfl
@[simp] theorem State.setPC_engine (s : State) (v : Word) : (s.setPC v).engine = s.engine := rfl
@[simp] theorem State.setPC_fault (s : State) (v : Word) : (s.setPC v).fault = s.fault := rfl
@[simp] theorem State.setPC_cycles (s : State) (v : Word) : (s.setPC v).cycles = s.cycles := rfl
@[simp] theorem State.setPC_nmiPending (s : State) (v : Word) : (s.setPC v).nmiPending = s.nmiPending := rfl
@[simp] theorem State.setPC_irqLine (s : State) (v : Word) : (s.setPC v).irqLine = s.irqLine := rfl
@[simp] theorem State.setPC_haltRequest (s : State) (v : Word) : (s.setPC v).haltRequest = s.haltRequest := rfl

@[simp] theorem State.setP_a (s : State) (v : Byte) : (s.setP v).a = s.a := rfl
@[simp] theorem State.setP_x (s : State) (v : Byte) : (s.setP v).x = s.x := rfl
@[simp] theorem State.setP_y (s : State) (v : Byte) : (s.setP v).y = s.y := rfl
@[simp] theorem State.setP_sp (s : State) (v : Byte) : (s.setP v).sp = s.sp := rfl
@[simp] theorem State.setP_pc (s : State) (v : Byte) : (s.setP v).pc = s.pc := rfl
@[simp] theorem State.setP_p (s : State) (v : Byte) : (s.setP v).p = v := rfl
@[simp] theorem State.setP_mem (s : State) (v : Byte) : (s.setP v).mem = s.mem := rfl
@[simp] theorem State.setP_engine (s : State) (v : Byte) : (s.setP v).engine = s.engine := rfl
@[simp] theorem State.setP_fault (s : State) (v : Byte) : (s.setP v).fault = s.fault := rfl
@[simp] theorem State.setP_cycles (s : State) (v : Byte) : (s.setP v).cycles = s.cycles := rfl
@[simp] theorem State.setP_nmiPending (s : State) (v : Byte) : (s.setP v).nmiPending = s.nmiPending := rfl
@[simp] theorem State.setP_irqLine (s : State) (v : Byte) : (s.setP v).irqLine = s.irqLine := rfl
@[simp] theorem State.setP_haltRequest (s : State) (v : Byte) : (s.setP v).haltRequest = s.haltRequest := rfl

@[simp] theorem State.setMem_a (s : State) (v : Memory) : (s.setMem v).a = s.a := rfl
@[simp] theorem State.setMem_x (s : State) (v : Memory) : (s.setMem v).x = s.x := rfl
@[simp] theorem State.setMem_y (s : State) (v : Memory) : (s.setMem v).y = s.y := rfl
@[simp] theorem State.setMem_sp (s : State) (v : Memory) : (s.setMem v).sp = s.sp := rfl
@[simp] theorem State.setMem_pc (s : State) (v : Memory) : (s.setMem v).pc = s.pc := rfl
@[simp] theorem State.setMem_p (s : State) (v : Memory) : (s.setMem v).p = s.p := rfl
@[simp] theorem State.setMem_mem (s : State) (v : Memory) : (s.setMem v).mem = v := rfl
@[simp] theorem State.setMem_engine (s : State) (v : Memory) : (s.setMem v).engine = s.engine := rfl
@[simp] theorem State.setMem_fault (s : State) (v : Memory) : (s.setMem v).fault = s.fault := rfl
@[simp] theorem State.setMem_cycles (s : State) (v : Memory) : (s.setMem v).cycles = s.cycles := rfl
@[simp] theorem State.setMem_nmiPending (s : State) (v : Memory) : (s.setMem v).nmiPending = s.nmiPending := rfl
@[simp] theorem State.setMem_irqLine (s : State) (v : Memory) : (s.setMem v).irqLine = s.irqLine := rfl
@[simp] theorem State.setMem_haltRequest (s : State) (v : Memory) : (s.setMem v).haltRequest = s.haltRequest := rfl

@[simp] theorem State.setEngine_a (s : State) (v : Engine) : (s.setEngine v).a = s.a := rfl
@[simp] theorem State.setEngine_x (s : State) (v : Engine) : (s.setEngine v).x = s.x := rfl
@[simp] theorem State.setEngine_y (s : State) (v : Engine) : (s.setEngine v).y = s.y := rfl
@[simp] theorem State.setEngine_sp (s : State) (v : Engine) : (s.setEngine v).sp = s.sp := rfl
@[simp] theorem State.setEngine_pc (s : State) (v : Engine) : (s.setEngine v).pc = s.pc := rfl
@[simp] theorem State.setEngine_p (s : State) (v : Engine) : (s.setEngine v).p = s.p := rfl
@[simp] theorem State.setEngine_mem (s : State) (v : Engine) : (s.setEngine v).mem = s.mem := rfl
@[simp] theorem State.setEngine_engine (s : State) (v : Engine) : (s.setEngine v).engine = v := rfl
@[simp] theorem State.setEngine_fault (s : State) (v : Engine) : (s.setEngine v).fault = s.fault := rfl
@[simp] theorem State.setEngine_cycles (s : State) (v : Engine) : (s.setEngine v).cycles = s.cycles := rfl
@[simp] theorem State.setEngine_nmiPending (s : State) (v : Engine) : (s.setEngine v).nmiPending = s.nmiPending := rfl
@[simp] theorem State.setEngine_irqLine (s : State) (v : Engine) : (s.setEngine v).irqLine = s.irqLine := rfl
@[simp] theorem State.setEngine_haltRequest (s : State) (v : Engine) : (s.setEngine v).haltRequest = s.haltRequest := rfl

@[simp] theorem State.setFault_a (s : State) (v : Option FaultRecord) : (s.setFault v).a = s.a := rfl
@[simp] theorem State.setFault_x (s : State) (v : Option FaultRecord) : (s.setFault v).x = s.x := rfl
@[simp] theorem State.setFault_y (s : State) (v : Option FaultRecord) : (s.setFault v).y = s.y := rfl
@[simp] theorem State.setFault_sp (s : State) (v : Option FaultRecord) : (s.setFault v).sp = s.sp := rfl
@[simp] theorem State.setFault_pc (s : State) (v : Option FaultRecord) : (s.setFault v).pc = s.pc := rfl
@[simp] theorem State.setFault_p (s : State) (v : Option FaultRecord) : (s.setFault v).p = s.p := rfl
@[simp] theorem State.setFault_mem (s : State) (v : Option FaultRecord) : (s.setFault v).mem = s.mem := rfl
@[simp] theorem State.setFault_engine (s : State) (v : Option FaultRecord) : (s.setFault v).engine = s.engine := rfl
@[simp] theorem State.setFault_fault (s : State) (v : Option FaultRecord) : (s.setFault v).fault = v := rfl
@[simp] theorem State.setFault_cycles (s : State) (v : Option FaultRecord) : (s.setFault v).cycles = s.cycles := rfl
@[simp] theorem State.setFault_nmiPending (s : State) (v : Option FaultRecord) : (s.setFault v).nmiPending = s.nmiPending := rfl
@[simp] theorem State.setFault_irqLine (s : State) (v : Option FaultRecord) : (s.setFault v).irqLine = s.irqLine := rfl
@[simp] theorem State.setFault_haltRequest (s : State) (v : Option FaultRecord) : (s.setFault v).haltRequest = s.haltRequest := rfl

@[simp] theorem State.addCycles_a (s : State) (v : Nat) : (s.addCycles v).a = s.a := rfl
@[simp] theorem State.addCycles_x (s : State) (v : Nat) : (s.addCycles v).x = s.x := rfl
@[simp] theorem State.addCycles_y (s : State) (v : Nat) : (s.addCycles v).y = s.y := rfl
@[simp] theorem State.addCycles_sp (s : State) (v : Nat) : (s.addCycles v).sp = s.sp := rfl
@[simp] theorem State.addCycles_pc (s : State) (v : Nat) : (s.addCycles v).pc = s.pc := rfl
@[simp] theorem State.addCycles_p (s : State) (v : Nat) : (s.addCycles v).p = s.p := rfl
@[simp] theorem State.addCycles_mem (s : State) (v : Nat) : (s.addCycles v).mem = s.mem := rfl
@[simp] theorem State.addCycles_engine (s : State) (v : Nat) : (s.addCycles v).engine = s.engine := rfl
@[simp] theorem State.addCycles_fault (s : State) (v : Nat) : (s.addCycles v).fault = s.fault := rfl
@[simp] theorem State.addCycles_cycles (s : State) (v : Nat) : (s.addCycles v).cycles = s.cycles + v := rfl
@[simp] theorem State.addCycles_nmiPending (s : State) (v : Nat) : (s.addCycles v).nmiPending = s.nmiPending := rfl
@[simp] theorem State.addCycles_irqLine (s : State) (v : Nat) : (s.addCycles v).irqLine = s.irqLine := rfl
@[simp] theorem State.addCycles_haltRequest (s : State) (v : Nat) : (s.addCycles v).haltRequest = s.haltRequest := rfl

@[simp] theorem State.setNmiPending_a (s : State) (v : Bool) : (s.setNmiPending v).a = s.a := rfl
@[simp] theorem State.setNmiPending_x (s : State) (v : Bool) : (s.setNmiPending v).x = s.x := rfl
@[simp] theorem State.setNmiPending_y (s : State) (v : Bool) : (s.setNmiPending v).y = s.y := rfl
@[simp] theorem State.setNmiPending_sp (s : State) (v : Bool) : (s.setNmiPending v).sp = s.sp := rfl
@[simp] theorem State.setNmiPending_pc (s : State) (v : Bool) : (s.setNmiPending v).pc = s.pc := rfl
@[simp] theorem State.setNmiPending_p (s : State) (v : Bool) : (s.setNmiPending v).p = s.p := rfl
@[simp] theorem State.setNmiPending_mem (s : State) (v : Bool) : (s.setNmiPending v).mem = s.mem := rfl
@[simp] theorem State.setNmiPending_engine (s : State) (v : Bool) : (s.setNmiPending v).engine = s.engine := rfl
@[simp] theorem State.setNmiPending_fault (s : State) (v : Bool) : (s.setNmiPending v).fault = s.fault := rfl
@[simp] theorem State.setNmiPending_cycles (s : State) (v : Bool) : (s.setNmiPending v).cycles = s.cycles := rfl
@[simp] theorem State.setNmiPending_nmiPending (s : State) (v : Bool) : (s.setNmiPending v).nmiPending = v := rfl
@[simp] theorem State.setNmiPending_irqLine (s : State) (v : Bool) : (s.setNmiPending v).irqLine = s.irqLine := rfl
@[simp] theorem State.setNmiPending_haltRequest (s : State) (v : Bool) : (s.setNmiPending v).haltRequest = s.haltRequest := rfl

@[simp] theorem State.setIrqLine_a (s : State) (v : Bool) : (s.setIrqLine v).a = s.a := rfl
@[simp] theorem State.setIrqLine_x (s : State) (v : Bool) : (s.setIrqLine v).x = s.x := rfl
@[simp] theorem State.setIrqLine_y (s : State) (v : Bool) : (s.setIrqLine v).y = s.y := rfl
@[simp] theorem State.setIrqLine_sp (s : State) (v : Bool) : (s.setIrqLine v).sp = s.sp := rfl
@[simp] theorem State.setIrqLine_pc (s : State) (v : Bool) : (s.setIrqLine v).pc = s.pc := rfl
@[simp] theorem State.setIrqLine_p (s : State) (v : Bool) : (s.setIrqLine v).p = s.p := rfl
@[simp] theorem State.setIrqLine_mem (s : State) (v : Bool) : (s.setIrqLine v).mem = s.mem := rfl
@[simp] theorem State.setIrqLine_engine (s : State) (v : Bool) : (s.setIrqLine v).engine = s.engine := rfl
@[simp] theorem State.setIrqLine_fault (s : State) (v : Bool) : (s.setIrqLine v).fault = s.fault := rfl
@[simp] theorem State.setIrqLine_cycles (s : State) (v : Bool) : (s.setIrqLine v).cycles = s.cycles := rfl
@[simp] theorem State.setIrqLine_nmiPending (s : State) (v : Bool) : (s.setIrqLine v).nmiPending = s.nmiPending := rfl
@[simp] theorem State.setIrqLine_irqLine (s : State) (v : Bool) : (s.setIrqLine v).irqLine = v := rfl
@[simp] theorem State.setIrqLine_haltRequest (s : State) (v : Bool) : (s.setIrqLine v).haltRequest = s.haltRequest := rfl

@[simp] theorem State.setHaltRequest_a (s : State) (v : Bool) : (s.setHaltRequest v).a = s.a := rfl
@[simp] theorem State.setHaltRequest_x (s : State) (v : Bool) : (s.setHaltRequest v).x = s.x := rfl
@[simp] theorem State.setHaltRequest_y (s : State) (v : Bool) : (s.setHaltRequest v).y = s.y := rfl
@[simp] theorem State.setHaltRequest_sp (s : State) (v : Bool) : (s.setHaltRequest v).sp = s.sp := rfl
@[simp] theorem State.setHaltRequest_pc (s : State) (v : Bool) : (s.setHaltRequest v).pc = s.pc := rfl
@[simp] theorem State.setHaltRequest_p (s : State) (v : Bool) : (s.setHaltRequest v).p = s.p := rfl
@[simp] theorem State.setHaltRequest_mem (s : State) (v : Bool) : (s.setHaltRequest v).mem = s.mem := rfl
@[simp] theorem State.setHaltRequest_engine (s : State) (v : Bool) : (s.setHaltRequest v).engine = s.engine := rfl
@[simp] theorem State.setHaltRequest_fault (s : State) (v : Bool) : (s.setHaltRequest v).fault = s.fault := rfl
@[simp] theorem State.setHaltRequest_cycles (s : State) (v : Bool) : (s.setHaltRequest v).cycles = s.cycles := rfl
@[simp] theorem State.setHaltRequest_nmiPending (s : State) (v : Bool) : (s.setHaltRequest v).nmiPending = s.nmiPending := rfl
@[simp] theorem State.setHaltRequest_irqLine (s : State) (v : Bool) : (s.setHaltRequest v).irqLine = s.irqLine := rfl
@[simp] theorem State.setHaltRequest_haltRequest (s : State) (v : Bool) : (s.setHaltRequest v).haltRequest = v := rfl

/-! A state is its fields. -/

theorem State.eq_of_fields {s t : State} (ha : s.a = t.a) (hx : s.x = t.x) (hy : s.y = t.y) (hsp : s.sp = t.sp)
    (hpc : s.pc = t.pc) (hp : s.p = t.p) (hm : s.mem = t.mem) (he : s.engine = t.engine) (hf : s.fault = t.fault)
    (hc : s.cycles = t.cycles) (hn : s.nmiPending = t.nmiPending) (hi : s.irqLine = t.irqLine)
    (hh : s.haltRequest = t.haltRequest) : s = t := by
  cases s; cases t; simp_all

end Sys2Proof.Machine
end

