-- ==== Sys2Proof/Laws/Memory.lean ====
section
/-! SUPPORT. Memory: a read after a write, and the canonical form, which every memory operation keeps. The read laws hold
of every cell list, canonical or not. -/

namespace Sys2Proof.Machine

/-! Reading after a change. -/

theorem Memory.read_remove (m : Memory) (a b : Nat) :
    Memory.read (Memory.remove m a) b = if b = a then Memory.unlisted else Memory.read m b := by
  induction m with
  | nil => simp [Memory.remove, Memory.read]
  | cons cell m ih =>
    obtain ⟨c, v⟩ := cell
    by_cases hac : a = c
    · subst hac
      by_cases hb : b = a
      · subst hb
        simpa [Memory.remove] using ih
      · simp [Memory.remove, Memory.read, ih, hb]
    · by_cases hbc : b = c
      · subst hbc
        simp [Memory.remove, Memory.read, hac, Ne.symm hac]
      · simp [Memory.remove, Memory.read, hac, hbc, ih]

/-- Of the two cells for one address the inserted one is not hidden, provided the list has no other. -/
theorem Memory.read_insert (m : Memory) (a b : Nat) (v : Byte) (h : ∀ w, (a, w) ∉ m) :
    Memory.read (Memory.insert m a v) b = if b = a then v else Memory.read m b := by
  induction m with
  | nil => simp [Memory.insert, Memory.read]
  | cons cell m ih =>
    obtain ⟨c, w⟩ := cell
    have hac : a ≠ c := fun e => h w (by simp [e])
    have hm : ∀ u, (a, u) ∉ m := fun u hu => h u (List.mem_cons_of_mem _ hu)
    by_cases hlt : a < c
    · simp [Memory.insert, Memory.read, hlt]
    · by_cases hbc : b = c
      · subst hbc
        simp [Memory.insert, Memory.read, hlt, Ne.symm hac]
      · simp [Memory.insert, Memory.read, hlt, hbc, ih hm]

theorem Memory.not_mem_remove (m : Memory) (a : Nat) (w : Byte) : (a, w) ∉ Memory.remove m a := by
  induction m with
  | nil => simp [Memory.remove]
  | cons cell m ih =>
    obtain ⟨c, v⟩ := cell
    by_cases hac : a = c
    · simpa [Memory.remove, hac] using hac ▸ ih
    · simp [Memory.remove, hac, ih]

/-- A read after a write: the value written at that address, what was there before at every other. -/
theorem Memory.read_write (m : Memory) (a b : Nat) (v : Byte) :
    Memory.read (Memory.write m a v) b = if b = a then v else Memory.read m b := by
  unfold Memory.write
  split
  next hv => simp [Memory.read_remove, hv]
  next => rw [Memory.read_insert _ _ _ _ (Memory.not_mem_remove m a), Memory.read_remove]; split <;> rfl

/-! The canonical form. -/

theorem Memory.wfFrom_mono {m : Memory} {low low' : Nat} (hle : low' ≤ low) (h : Memory.wfFrom low m = true) :
    Memory.wfFrom low' m = true := by
  cases m with
  | nil => rfl
  | cons cell m =>
    obtain ⟨c, v⟩ := cell
    simp only [Memory.wfFrom, Bool.and_eq_true, decide_eq_true_eq] at h ⊢
    exact ⟨⟨⟨by omega, h.1.1.2⟩, h.1.2⟩, h.2⟩

theorem Memory.wfFrom_remove {m : Memory} {low : Nat} (a : Nat) (h : Memory.wfFrom low m = true) :
    Memory.wfFrom low (Memory.remove m a) = true := by
  induction m generalizing low with
  | nil => rfl
  | cons cell m ih =>
    obtain ⟨c, v⟩ := cell
    simp only [Memory.wfFrom, Bool.and_eq_true, decide_eq_true_eq] at h
    by_cases hac : a = c
    · simpa [Memory.remove, hac] using hac ▸ Memory.wfFrom_mono (by omega) (ih h.2)
    · simp [Memory.remove, Memory.wfFrom, hac, h.1.1.1, h.1.1.2, h.1.2, ih h.2]

theorem Memory.wfFrom_insert {m : Memory} {low a : Nat} {v : Byte} (hlow : low ≤ a) (ha : a < 65536)
    (hv : v ≠ Memory.unlisted) (hm : ∀ w, (a, w) ∉ m) (h : Memory.wfFrom low m = true) :
    Memory.wfFrom low (Memory.insert m a v) = true := by
  induction m generalizing low with
  | nil => simp [Memory.insert, Memory.wfFrom, hlow, ha, hv]
  | cons cell m ih =>
    obtain ⟨c, w⟩ := cell
    have hac : a ≠ c := fun e => hm w (by simp [e])
    have hm' : ∀ u, (a, u) ∉ m := fun u hu => hm u (List.mem_cons_of_mem _ hu)
    simp only [Memory.wfFrom, Bool.and_eq_true, decide_eq_true_eq] at h
    by_cases hlt : a < c
    · have hle : a + 1 ≤ c := hlt
      simp [Memory.insert, Memory.wfFrom, hlt, hlow, ha, hv, hle, h.1.1.2, h.1.2, h.2]
    · simp [Memory.insert, Memory.wfFrom, hlt, h.1.1.1, h.1.1.2, h.1.2, ih (by omega) hm' h.2]

/-- Every write to an address of the bus keeps the canonical form. -/
theorem Memory.wf_write {m : Memory} {a : Nat} (v : Byte) (ha : a < 65536) (h : Memory.wf m = true) :
    Memory.wf (Memory.write m a v) = true := by
  unfold Memory.write Memory.wf
  split
  next => exact Memory.wfFrom_remove a h
  next hv =>
    exact Memory.wfFrom_insert (Nat.zero_le _) ha hv (Memory.not_mem_remove m a) (Memory.wfFrom_remove a h)

/-! The bus. -/

@[simp] theorem State.write8_a (s : State) (addr : Word) (v : Byte) : (s.write8 addr v).a = s.a := rfl
@[simp] theorem State.write8_x (s : State) (addr : Word) (v : Byte) : (s.write8 addr v).x = s.x := rfl
@[simp] theorem State.write8_y (s : State) (addr : Word) (v : Byte) : (s.write8 addr v).y = s.y := rfl
@[simp] theorem State.write8_sp (s : State) (addr : Word) (v : Byte) : (s.write8 addr v).sp = s.sp := rfl
@[simp] theorem State.write8_pc (s : State) (addr : Word) (v : Byte) : (s.write8 addr v).pc = s.pc := rfl
@[simp] theorem State.write8_p (s : State) (addr : Word) (v : Byte) : (s.write8 addr v).p = s.p := rfl
@[simp] theorem State.write8_engine (s : State) (addr : Word) (v : Byte) : (s.write8 addr v).engine = s.engine := rfl
@[simp] theorem State.write8_fault (s : State) (addr : Word) (v : Byte) : (s.write8 addr v).fault = s.fault := rfl
@[simp] theorem State.write8_cycles (s : State) (addr : Word) (v : Byte) : (s.write8 addr v).cycles = s.cycles := rfl
@[simp] theorem State.write8_nmiPending (s : State) (addr : Word) (v : Byte) :
    (s.write8 addr v).nmiPending = s.nmiPending := rfl
@[simp] theorem State.write8_irqLine (s : State) (addr : Word) (v : Byte) :
    (s.write8 addr v).irqLine = s.irqLine := rfl
@[simp] theorem State.write8_haltRequest (s : State) (addr : Word) (v : Byte) :
    (s.write8 addr v).haltRequest = s.haltRequest := rfl

/-- A read depends on memory alone, so it sees through every update of another field. -/
theorem State.read8_congr {s t : State} (h : s.mem = t.mem) (addr : Word) : s.read8 addr = t.read8 addr := by
  simp [State.read8, h]

@[simp] theorem State.read8_setA (s : State) (v : Byte) (a : Word) : (s.setA v).read8 a = s.read8 a := rfl
@[simp] theorem State.read8_setX (s : State) (v : Byte) (a : Word) : (s.setX v).read8 a = s.read8 a := rfl
@[simp] theorem State.read8_setY (s : State) (v : Byte) (a : Word) : (s.setY v).read8 a = s.read8 a := rfl
@[simp] theorem State.read8_setSP (s : State) (v : Byte) (a : Word) : (s.setSP v).read8 a = s.read8 a := rfl
@[simp] theorem State.read8_setPC (s : State) (v : Word) (a : Word) : (s.setPC v).read8 a = s.read8 a := rfl
@[simp] theorem State.read8_setP (s : State) (v : Byte) (a : Word) : (s.setP v).read8 a = s.read8 a := rfl
@[simp] theorem State.read8_setEngine (s : State) (v : Engine) (a : Word) : (s.setEngine v).read8 a = s.read8 a := rfl
@[simp] theorem State.read8_setFault (s : State) (v : Option FaultRecord) (a : Word) :
    (s.setFault v).read8 a = s.read8 a := rfl
@[simp] theorem State.read8_addCycles (s : State) (v : Nat) (a : Word) : (s.addCycles v).read8 a = s.read8 a := rfl
@[simp] theorem State.read8_setNmiPending (s : State) (v : Bool) (a : Word) :
    (s.setNmiPending v).read8 a = s.read8 a := rfl
@[simp] theorem State.read8_setIrqLine (s : State) (v : Bool) (a : Word) : (s.setIrqLine v).read8 a = s.read8 a := rfl
@[simp] theorem State.read8_setHaltRequest (s : State) (v : Bool) (a : Word) :
    (s.setHaltRequest v).read8 a = s.read8 a := rfl

/-- R62, R63, R77: a read returns the byte last written to its address. -/
@[simp] theorem State.read8_write8 (s : State) (addr b : Word) (v : Byte) :
    (s.write8 addr v).read8 b = if b = addr then v else s.read8 b := by
  simp only [State.read8, State.write8, State.setMem_mem, Memory.read_write, BitVec.toNat_inj]

theorem State.wf_write8 {s : State} (addr : Word) (v : Byte) (h : Memory.wf s.mem = true) :
    Memory.wf (s.write8 addr v).mem = true := Memory.wf_write v addr.isLt h

theorem State.reset_mem_wf : Memory.wf State.reset.mem = true := rfl

end Sys2Proof.Machine
end

