-- ==== Sys2Proof/Laws/Ops.lean ====
section
/-! SUPPORT. What each shared operation of Machine/Ops.lean does and what it leaves alone: the stack, the program counter,
taking an interrupt and returning from one. -/

namespace Sys2Proof.Machine

/-! Reads that depend on memory alone. -/

theorem State.read16_eq (s : State) (a : Word) : s.read16 a = wordOf (s.read8 a) (s.read8 (a + 1)) := rfl

theorem State.readPtrBug_congr {s t : State} (h : s.mem = t.mem) (ptr : Word) : s.readPtrBug ptr = t.readPtrBug ptr := by
  simp [State.readPtrBug, State.read8_congr h]

theorem State.readPtrZP_congr {s t : State} (h : s.mem = t.mem) (zp : Byte) : s.readPtrZP zp = t.readPtrZP zp := by
  simp [State.readPtrZP, State.read8_congr h]

/-! The stack. -/

theorem stackAddr_toNat (sp : Byte) : (stackAddr sp).toNat = 0x100 + sp.toNat := by
  have hlt : sp.toNat < 2 ^ 8 := sp.isLt
  have hz : (zext16 sp).toNat = sp.toNat := by
    simp only [zext16, BitVec.toNat_setWidth]
    omega
  rw [stackAddr, BitVec.toNat_or, hz]
  exact (Nat.shiftLeft_add_eq_or_of_lt hlt 1).symm

theorem stackAddr_inj {a b : Byte} : stackAddr a = stackAddr b ↔ a = b := by
  refine ⟨fun h => ?_, fun h => by rw [h]⟩
  have := congrArg BitVec.toNat h
  rw [stackAddr_toNat, stackAddr_toNat] at this
  exact BitVec.eq_of_toNat_eq (by omega)

/-- No stack address is $0200 or above (R67). -/
theorem ne_stackAddr {a : Word} (h : 0x200 ≤ a.toNat) (sp : Byte) : a ≠ stackAddr sp := by
  intro e
  have := sp.isLt
  rw [e, stackAddr_toNat] at h
  omega

@[simp] theorem State.push_a (s : State) (v : Byte) : (s.push v).a = s.a := rfl
@[simp] theorem State.push_x (s : State) (v : Byte) : (s.push v).x = s.x := rfl
@[simp] theorem State.push_y (s : State) (v : Byte) : (s.push v).y = s.y := rfl
@[simp] theorem State.push_pc (s : State) (v : Byte) : (s.push v).pc = s.pc := rfl
@[simp] theorem State.push_p (s : State) (v : Byte) : (s.push v).p = s.p := rfl
@[simp] theorem State.push_engine (s : State) (v : Byte) : (s.push v).engine = s.engine := rfl
@[simp] theorem State.push_fault (s : State) (v : Byte) : (s.push v).fault = s.fault := rfl
@[simp] theorem State.push_cycles (s : State) (v : Byte) : (s.push v).cycles = s.cycles := rfl
@[simp] theorem State.push_nmiPending (s : State) (v : Byte) : (s.push v).nmiPending = s.nmiPending := rfl
@[simp] theorem State.push_irqLine (s : State) (v : Byte) : (s.push v).irqLine = s.irqLine := rfl
@[simp] theorem State.push_haltRequest (s : State) (v : Byte) : (s.push v).haltRequest = s.haltRequest := rfl

@[simp] theorem State.push_sp (s : State) (v : Byte) : (s.push v).sp = s.sp - 1 := rfl

/-- R68: a push writes the byte at `$0100 | SP` and no other. -/
@[simp] theorem State.read8_push (s : State) (v : Byte) (a : Word) :
    (s.push v).read8 a = if a = stackAddr s.sp then v else s.read8 a := by
  simp [State.push]

theorem State.wf_push {s : State} (v : Byte) (h : Memory.wf s.mem = true) : Memory.wf (s.push v).mem = true :=
  State.wf_write8 (stackAddr s.sp) v h

@[simp] theorem State.pull_a (s : State) : (s.pull.2).a = s.a := rfl
@[simp] theorem State.pull_x (s : State) : (s.pull.2).x = s.x := rfl
@[simp] theorem State.pull_y (s : State) : (s.pull.2).y = s.y := rfl
@[simp] theorem State.pull_pc (s : State) : (s.pull.2).pc = s.pc := rfl
@[simp] theorem State.pull_p (s : State) : (s.pull.2).p = s.p := rfl
@[simp] theorem State.pull_engine (s : State) : (s.pull.2).engine = s.engine := rfl
@[simp] theorem State.pull_fault (s : State) : (s.pull.2).fault = s.fault := rfl
@[simp] theorem State.pull_cycles (s : State) : (s.pull.2).cycles = s.cycles := rfl
@[simp] theorem State.pull_nmiPending (s : State) : (s.pull.2).nmiPending = s.nmiPending := rfl
@[simp] theorem State.pull_irqLine (s : State) : (s.pull.2).irqLine = s.irqLine := rfl
@[simp] theorem State.pull_haltRequest (s : State) : (s.pull.2).haltRequest = s.haltRequest := rfl
@[simp] theorem State.pull_mem (s : State) : (s.pull.2).mem = s.mem := rfl

@[simp] theorem State.pull_sp (s : State) : s.pull.2.sp = s.sp + 1 := rfl
@[simp] theorem State.pull_fst (s : State) : s.pull.1 = s.read8 (stackAddr (s.sp + 1)) := rfl
@[simp] theorem State.read8_pull (s : State) (a : Word) : s.pull.2.read8 a = s.read8 a := rfl

@[simp] theorem State.pushWord_a (s : State) (w : Word) : (s.pushWord w).a = s.a := rfl
@[simp] theorem State.pushWord_x (s : State) (w : Word) : (s.pushWord w).x = s.x := rfl
@[simp] theorem State.pushWord_y (s : State) (w : Word) : (s.pushWord w).y = s.y := rfl
@[simp] theorem State.pushWord_pc (s : State) (w : Word) : (s.pushWord w).pc = s.pc := rfl
@[simp] theorem State.pushWord_p (s : State) (w : Word) : (s.pushWord w).p = s.p := rfl
@[simp] theorem State.pushWord_engine (s : State) (w : Word) : (s.pushWord w).engine = s.engine := rfl
@[simp] theorem State.pushWord_fault (s : State) (w : Word) : (s.pushWord w).fault = s.fault := rfl
@[simp] theorem State.pushWord_cycles (s : State) (w : Word) : (s.pushWord w).cycles = s.cycles := rfl
@[simp] theorem State.pushWord_nmiPending (s : State) (w : Word) : (s.pushWord w).nmiPending = s.nmiPending := rfl
@[simp] theorem State.pushWord_irqLine (s : State) (w : Word) : (s.pushWord w).irqLine = s.irqLine := rfl
@[simp] theorem State.pushWord_haltRequest (s : State) (w : Word) : (s.pushWord w).haltRequest = s.haltRequest := rfl

@[simp] theorem State.pushWord_sp (s : State) (w : Word) : (s.pushWord w).sp = s.sp - 2 := by
  simp only [State.pushWord, State.push_sp]
  bv_omega

/-- R70: the high byte lies at `$0100 | SP`, the low byte at `$0100 | SP - 1`. -/
@[simp] theorem State.read8_pushWord (s : State) (w : Word) (a : Word) :
    (s.pushWord w).read8 a =
      if a = stackAddr (s.sp - 1) then loByte w else if a = stackAddr s.sp then hiByte w else s.read8 a := by
  simp [State.pushWord]

theorem State.wf_pushWord {s : State} (w : Word) (h : Memory.wf s.mem = true) : Memory.wf (s.pushWord w).mem = true :=
  State.wf_push _ (State.wf_push _ h)

@[simp] theorem State.pullWord_a (s : State) : (s.pullWord.2).a = s.a := rfl
@[simp] theorem State.pullWord_x (s : State) : (s.pullWord.2).x = s.x := rfl
@[simp] theorem State.pullWord_y (s : State) : (s.pullWord.2).y = s.y := rfl
@[simp] theorem State.pullWord_pc (s : State) : (s.pullWord.2).pc = s.pc := rfl
@[simp] theorem State.pullWord_p (s : State) : (s.pullWord.2).p = s.p := rfl
@[simp] theorem State.pullWord_engine (s : State) : (s.pullWord.2).engine = s.engine := rfl
@[simp] theorem State.pullWord_fault (s : State) : (s.pullWord.2).fault = s.fault := rfl
@[simp] theorem State.pullWord_cycles (s : State) : (s.pullWord.2).cycles = s.cycles := rfl
@[simp] theorem State.pullWord_nmiPending (s : State) : (s.pullWord.2).nmiPending = s.nmiPending := rfl
@[simp] theorem State.pullWord_irqLine (s : State) : (s.pullWord.2).irqLine = s.irqLine := rfl
@[simp] theorem State.pullWord_haltRequest (s : State) : (s.pullWord.2).haltRequest = s.haltRequest := rfl
@[simp] theorem State.pullWord_mem (s : State) : (s.pullWord.2).mem = s.mem := rfl

@[simp] theorem State.pullWord_sp (s : State) : s.pullWord.2.sp = s.sp + 2 := by
  simp only [State.pullWord, State.pull_sp]
  bv_omega

@[simp] theorem State.pullWord_fst (s : State) :
    s.pullWord.1 = wordOf (s.read8 (stackAddr (s.sp + 1))) (s.read8 (stackAddr (s.sp + 2))) := by
  have h : s.sp + 1#8 + 1#8 = s.sp + 2#8 := by bv_omega
  simp [State.pullWord, h]

@[simp] theorem State.read8_pullWord (s : State) (a : Word) : s.pullWord.2.read8 a = s.read8 a := rfl

/-! The program counter. -/

@[simp] theorem State.advance_a (s : State) (n : Nat) : (s.advance n).a = s.a := rfl
@[simp] theorem State.advance_x (s : State) (n : Nat) : (s.advance n).x = s.x := rfl
@[simp] theorem State.advance_y (s : State) (n : Nat) : (s.advance n).y = s.y := rfl
@[simp] theorem State.advance_sp (s : State) (n : Nat) : (s.advance n).sp = s.sp := rfl
@[simp] theorem State.advance_p (s : State) (n : Nat) : (s.advance n).p = s.p := rfl
@[simp] theorem State.advance_mem (s : State) (n : Nat) : (s.advance n).mem = s.mem := rfl
@[simp] theorem State.advance_engine (s : State) (n : Nat) : (s.advance n).engine = s.engine := rfl
@[simp] theorem State.advance_fault (s : State) (n : Nat) : (s.advance n).fault = s.fault := rfl
@[simp] theorem State.advance_cycles (s : State) (n : Nat) : (s.advance n).cycles = s.cycles := rfl
@[simp] theorem State.advance_nmiPending (s : State) (n : Nat) : (s.advance n).nmiPending = s.nmiPending := rfl
@[simp] theorem State.advance_irqLine (s : State) (n : Nat) : (s.advance n).irqLine = s.irqLine := rfl
@[simp] theorem State.advance_haltRequest (s : State) (n : Nat) : (s.advance n).haltRequest = s.haltRequest := rfl

@[simp] theorem State.advance_pc (s : State) (n : Nat) : (s.advance n).pc = s.pc + BitVec.ofNat 16 n := rfl
@[simp] theorem State.read8_advance (s : State) (n : Nat) (a : Word) : (s.advance n).read8 a = s.read8 a := rfl

theorem State.advance_pc_toNat (s : State) (n : Nat) : (s.advance n).pc.toNat = (s.pc.toNat + n) % 65536 := by
  simp [State.advance, BitVec.toNat_add]

/-! Taking an interrupt or BRK, and returning. -/

@[simp] theorem State.takeInterrupt_a (s : State) (kind : InterruptKind) :
    (s.takeInterrupt kind).a = s.a := by simp [State.takeInterrupt]
@[simp] theorem State.takeInterrupt_x (s : State) (kind : InterruptKind) :
    (s.takeInterrupt kind).x = s.x := by simp [State.takeInterrupt]
@[simp] theorem State.takeInterrupt_y (s : State) (kind : InterruptKind) :
    (s.takeInterrupt kind).y = s.y := by simp [State.takeInterrupt]
@[simp] theorem State.takeInterrupt_engine (s : State) (kind : InterruptKind) :
    (s.takeInterrupt kind).engine = s.engine := by simp [State.takeInterrupt]
@[simp] theorem State.takeInterrupt_fault (s : State) (kind : InterruptKind) :
    (s.takeInterrupt kind).fault = s.fault := by simp [State.takeInterrupt]
@[simp] theorem State.takeInterrupt_cycles (s : State) (kind : InterruptKind) :
    (s.takeInterrupt kind).cycles = s.cycles := by simp [State.takeInterrupt]
@[simp] theorem State.takeInterrupt_nmiPending (s : State) (kind : InterruptKind) :
    (s.takeInterrupt kind).nmiPending = s.nmiPending := by simp [State.takeInterrupt]
@[simp] theorem State.takeInterrupt_irqLine (s : State) (kind : InterruptKind) :
    (s.takeInterrupt kind).irqLine = s.irqLine := by simp [State.takeInterrupt]
@[simp] theorem State.takeInterrupt_haltRequest (s : State) (kind : InterruptKind) :
    (s.takeInterrupt kind).haltRequest = s.haltRequest := by simp [State.takeInterrupt]

@[simp] theorem State.takeInterrupt_sp (s : State) (kind : InterruptKind) : (s.takeInterrupt kind).sp = s.sp - 3 := by
  simp only [State.takeInterrupt, State.setPC_sp, State.setP_sp, State.push_sp, State.pushWord_sp]
  bv_omega

@[simp] theorem State.takeInterrupt_p (s : State) (kind : InterruptKind) :
    (s.takeInterrupt kind).p = putFlag s.p .i true := by
  simp [State.takeInterrupt]

/-- R267, R269: `PC` high at `$0100 | SP`, `PC` low at `SP - 1`, the pushed status at `SP - 2`, no other byte written. -/
@[simp] theorem State.read8_takeInterrupt (s : State) (kind : InterruptKind) (a : Word) :
    (s.takeInterrupt kind).read8 a =
      if a = stackAddr (s.sp - 2) then pushedP (kind == .brk) s.p
      else if a = stackAddr (s.sp - 1) then loByte s.pc
      else if a = stackAddr s.sp then hiByte s.pc else s.read8 a := by
  simp [State.takeInterrupt]

/-- The vector lies outside the stack page, so the pushes do not change it. -/
@[simp] theorem State.takeInterrupt_pc (s : State) (kind : InterruptKind) :
    (s.takeInterrupt kind).pc = s.read16 (interruptVector kind) := by
  have h0 : 0x200 ≤ (interruptVector kind).toNat := by cases kind <;> decide
  have h1 : 0x200 ≤ (interruptVector kind + 1#16).toNat := by cases kind <;> decide
  simp [State.takeInterrupt, State.read16, ne_stackAddr h0, ne_stackAddr h1]

theorem State.wf_takeInterrupt {s : State} (kind : InterruptKind) (h : Memory.wf s.mem = true) :
    Memory.wf (s.takeInterrupt kind).mem = true :=
  State.wf_push _ (State.wf_pushWord _ h)

@[simp] theorem State.returnFromInterrupt_a (s : State) :
    (s.returnFromInterrupt).a = s.a := by simp [State.returnFromInterrupt]
@[simp] theorem State.returnFromInterrupt_x (s : State) :
    (s.returnFromInterrupt).x = s.x := by simp [State.returnFromInterrupt]
@[simp] theorem State.returnFromInterrupt_y (s : State) :
    (s.returnFromInterrupt).y = s.y := by simp [State.returnFromInterrupt]
@[simp] theorem State.returnFromInterrupt_engine (s : State) :
    (s.returnFromInterrupt).engine = s.engine := by simp [State.returnFromInterrupt]
@[simp] theorem State.returnFromInterrupt_fault (s : State) :
    (s.returnFromInterrupt).fault = s.fault := by simp [State.returnFromInterrupt]
@[simp] theorem State.returnFromInterrupt_cycles (s : State) :
    (s.returnFromInterrupt).cycles = s.cycles := by simp [State.returnFromInterrupt]
@[simp] theorem State.returnFromInterrupt_nmiPending (s : State) :
    (s.returnFromInterrupt).nmiPending = s.nmiPending := by simp [State.returnFromInterrupt]
@[simp] theorem State.returnFromInterrupt_irqLine (s : State) :
    (s.returnFromInterrupt).irqLine = s.irqLine := by simp [State.returnFromInterrupt]
@[simp] theorem State.returnFromInterrupt_haltRequest (s : State) :
    (s.returnFromInterrupt).haltRequest = s.haltRequest := by simp [State.returnFromInterrupt]
@[simp] theorem State.returnFromInterrupt_mem (s : State) :
    (s.returnFromInterrupt).mem = s.mem := by simp [State.returnFromInterrupt]

@[simp] theorem State.returnFromInterrupt_sp (s : State) : s.returnFromInterrupt.sp = s.sp + 3 := by
  simp only [State.returnFromInterrupt, State.setPC_sp, State.pullWord_sp, State.setP_sp, State.pull_sp]
  bv_omega

@[simp] theorem State.returnFromInterrupt_p (s : State) :
    s.returnFromInterrupt.p = pulledP (s.read8 (stackAddr (s.sp + 1))) := by
  simp [State.returnFromInterrupt]

@[simp] theorem State.returnFromInterrupt_pc (s : State) :
    s.returnFromInterrupt.pc = wordOf (s.read8 (stackAddr (s.sp + 2))) (s.read8 (stackAddr (s.sp + 3))) := by
  have h2 : s.sp + 1#8 + 1#8 = s.sp + 2#8 := by bv_omega
  have h3 : s.sp + 1#8 + 2#8 = s.sp + 3#8 := by bv_omega
  simp [State.returnFromInterrupt, h2, h3]

@[simp] theorem State.read8_returnFromInterrupt (s : State) (a : Word) : s.returnFromInterrupt.read8 a = s.read8 a :=
  State.read8_congr (State.returnFromInterrupt_mem s) a

end Sys2Proof.Machine
end

