-- ==== Sys2Proof/Laws/Shapes.lean ====
section
/-! SUPPORT. The resolver, and each instruction shape of Machine/Operands.lean: the one state it answers. -/

namespace Sys2Proof.Machine

/-! The resolver reads `X`, `Y`, `PC` and memory. -/

theorem resolve_congr {s t : State} (hx : s.x = t.x) (hy : s.y = t.y) (hpc : s.pc = t.pc) (hm : s.mem = t.mem)
    (m : AddrMode) : resolve m s = resolve m t := by
  cases m <;> simp [resolve, hx, hy, hpc, State.readPtrBug_congr hm, State.readPtrZP_congr hm]

theorem Operand.value_congr {s t : State} (hx : s.x = t.x) (hy : s.y = t.y) (hpc : s.pc = t.pc) (hm : s.mem = t.mem)
    (o : Operand) : o.value s = o.value t := by
  cases o <;> simp [Operand.value, resolve_congr hx hy hpc hm, State.read8_congr hm]

theorem Operand.crossed_congr {s t : State} (hx : s.x = t.x) (hy : s.y = t.y) (hpc : s.pc = t.pc) (hm : s.mem = t.mem)
    (o : Operand) : o.crossed s = o.crossed t := by
  cases o <;> simp [Operand.crossed, resolve_congr hx hy hpc hm]

theorem Location.value_congr {s t : State} (ha : s.a = t.a) (hx : s.x = t.x) (hy : s.y = t.y) (hpc : s.pc = t.pc)
    (hm : s.mem = t.mem) (l : Location) : l.value s = l.value t := by
  cases l <;> simp [Location.value, ha, resolve_congr hx hy hpc hm, State.read8_congr hm]

/-- R99, R120: an operand has one or two bytes. -/
theorem AddrMode.bytes_le (m : AddrMode) : 1 ≤ m.bytes ∧ m.bytes ≤ 2 := by
  cases m <;> simp [AddrMode.bytes]

theorem cost_bounds (base : Nat) (extra crossed : Bool) :
    base ≤ cost base extra crossed ∧ cost base extra crossed ≤ base + (if extra then 1 else 0) := by
  cases extra <;> cases crossed <;> simp [cost]

/-! What each shape answers; each is a next state, so no instruction of these shapes stops (R262). -/

theorem implied_next {base : Nat} {handler : State → State} {s t : State} (h : implied base handler s = .next t) :
    t = (handler (s.advance 1)).addCycles base := by
  cases h; rfl

theorem reading_next {o : Operand} {base : Nat} {extra : Bool} {handler : Byte → State → State} {s t : State}
    (h : reading o base extra handler s = .next t) :
    t = (handler (o.value s) (s.advance (1 + o.bytes))).addCycles (cost base extra (o.crossed s)) := by
  cases h; rfl

theorem storing_next {m : AddrMode} {base : Nat} {extra : Bool} {v : Byte} {s t : State}
    (h : storing m base extra v s = .next t) :
    t = ((s.advance (1 + m.bytes)).write8 (resolve m s).ea v).addCycles
      (cost base extra (resolve m s).pageCrossed) := by
  cases h; rfl

theorem modifying_next {l : Location} {base : Nat} {extra : Bool} {alu : Byte → Byte → Byte × Byte} {s t : State}
    (h : modifying l base extra alu s = .next t) :
    t = ((l.store s (alu s.p (l.value s)).2 (s.advance (1 + l.bytes))).setP (alu s.p (l.value s)).1).addCycles
      (cost base extra (l.crossed s)) := by
  cases h; rfl

/-- R210: a branch is either taken or not, and answers a next state in both cases. -/
theorem branching_next {f : Flag} {want : Bool} {d : Byte} {base : Nat} {s t : State}
    (h : branching f want d base s = .next t) :
    (getFlag s.p f = want ∧ t = (s.setPC (resolve (.relative d) s).ea).addCycles
      (base + 1 + (if (resolve (.relative d) s).pageCrossed then 1 else 0))) ∨
    (getFlag s.p f ≠ want ∧ t = (s.advance 2).addCycles base) := by
  unfold branching at h
  split at h
  next hw => exact .inl ⟨by simpa using hw, by cases h; rfl⟩
  next hw => exact .inr ⟨by simpa using hw, by cases h; rfl⟩

@[simp] theorem Location.store_accumulator (before : State) (v : Byte) (s : State) :
    Location.accumulator.store before v s = s.setA v := rfl

@[simp] theorem Location.store_memory (m : AddrMode) (before : State) (v : Byte) (s : State) :
    (Location.memory m).store before v s = s.write8 (resolve m before).ea v := rfl

/-- A store to a location leaves every field but `A` and memory alone. -/
theorem Location.store_frame (l : Location) (before : State) (v : Byte) (s : State) :
    (l.store before v s).x = s.x ∧ (l.store before v s).y = s.y ∧ (l.store before v s).sp = s.sp ∧
    (l.store before v s).pc = s.pc ∧ (l.store before v s).p = s.p ∧ (l.store before v s).engine = s.engine ∧
    (l.store before v s).fault = s.fault ∧ (l.store before v s).cycles = s.cycles ∧
    (l.store before v s).nmiPending = s.nmiPending ∧ (l.store before v s).irqLine = s.irqLine ∧
    (l.store before v s).haltRequest = s.haltRequest := by
  cases l <;> simp [Location.store]

theorem Location.wf_store {s : State} (l : Location) (before : State) (v : Byte) (h : Memory.wf s.mem = true) :
    Memory.wf (l.store before v s).mem = true := by
  cases l with
  | accumulator => exact h
  | memory m => exact State.wf_write8 _ v h

end Sys2Proof.Machine
end

