-- ==== Sys2Proof/Laws/Exec.lean ====
section
/-! SUPPORT. Each instruction as its shape of Machine/Operands.lean applied to its operand, its cycles and its handler, so
that a proof over all instructions splits on the instruction, rewrites with these and cites one law per shape. -/

namespace Sys2Proof.Machine

@[simp] theorem exec_ldaIndX (zp : Byte) (s : State) :
    exec (.ldaIndX zp) s = reading (.memory (.indexedIndirect zp)) 6 false handleLda s := rfl
@[simp] theorem exec_ldaZp (b1 : Byte) (s : State) :
    exec (.ldaZp b1) s = reading (.memory (.zeroPage b1)) 3 false handleLda s := rfl
@[simp] theorem exec_ldaImm (v : Byte) (s : State) :
    exec (.ldaImm v) s = reading (.immediate v) 2 false handleLda s := rfl
@[simp] theorem exec_ldaAbs (w : Word) (s : State) :
    exec (.ldaAbs w) s = reading (.memory (.absolute w)) 4 false handleLda s := rfl
@[simp] theorem exec_ldaIndY (zp : Byte) (s : State) :
    exec (.ldaIndY zp) s = reading (.memory (.indirectIndexed zp)) 5 true handleLda s := rfl
@[simp] theorem exec_ldaZpX (b1 : Byte) (s : State) :
    exec (.ldaZpX b1) s = reading (.memory (.zeroPageX b1)) 4 false handleLda s := rfl
@[simp] theorem exec_ldaAbsY (w : Word) (s : State) :
    exec (.ldaAbsY w) s = reading (.memory (.absoluteY w)) 4 true handleLda s := rfl
@[simp] theorem exec_ldaAbsX (w : Word) (s : State) :
    exec (.ldaAbsX w) s = reading (.memory (.absoluteX w)) 4 true handleLda s := rfl
@[simp] theorem exec_ldxImm (v : Byte) (s : State) :
    exec (.ldxImm v) s = reading (.immediate v) 2 false handleLdx s := rfl
@[simp] theorem exec_ldxZp (b1 : Byte) (s : State) :
    exec (.ldxZp b1) s = reading (.memory (.zeroPage b1)) 3 false handleLdx s := rfl
@[simp] theorem exec_ldxAbs (w : Word) (s : State) :
    exec (.ldxAbs w) s = reading (.memory (.absolute w)) 4 false handleLdx s := rfl
@[simp] theorem exec_ldxZpY (b1 : Byte) (s : State) :
    exec (.ldxZpY b1) s = reading (.memory (.zeroPageY b1)) 4 false handleLdx s := rfl
@[simp] theorem exec_ldxAbsY (w : Word) (s : State) :
    exec (.ldxAbsY w) s = reading (.memory (.absoluteY w)) 4 true handleLdx s := rfl
@[simp] theorem exec_ldyImm (v : Byte) (s : State) :
    exec (.ldyImm v) s = reading (.immediate v) 2 false handleLdy s := rfl
@[simp] theorem exec_ldyZp (b1 : Byte) (s : State) :
    exec (.ldyZp b1) s = reading (.memory (.zeroPage b1)) 3 false handleLdy s := rfl
@[simp] theorem exec_ldyAbs (w : Word) (s : State) :
    exec (.ldyAbs w) s = reading (.memory (.absolute w)) 4 false handleLdy s := rfl
@[simp] theorem exec_ldyZpX (b1 : Byte) (s : State) :
    exec (.ldyZpX b1) s = reading (.memory (.zeroPageX b1)) 4 false handleLdy s := rfl
@[simp] theorem exec_ldyAbsX (w : Word) (s : State) :
    exec (.ldyAbsX w) s = reading (.memory (.absoluteX w)) 4 true handleLdy s := rfl
@[simp] theorem exec_staIndX (zp : Byte) (s : State) :
    exec (.staIndX zp) s = storing (.indexedIndirect zp) 6 false s.a s := rfl
@[simp] theorem exec_staZp (b1 : Byte) (s : State) : exec (.staZp b1) s = storing (.zeroPage b1) 3 false s.a s := rfl
@[simp] theorem exec_staAbs (w : Word) (s : State) : exec (.staAbs w) s = storing (.absolute w) 4 false s.a s := rfl
@[simp] theorem exec_staIndY (zp : Byte) (s : State) :
    exec (.staIndY zp) s = storing (.indirectIndexed zp) 6 false s.a s := rfl
@[simp] theorem exec_staZpX (b1 : Byte) (s : State) :
    exec (.staZpX b1) s = storing (.zeroPageX b1) 4 false s.a s := rfl
@[simp] theorem exec_staAbsY (w : Word) (s : State) : exec (.staAbsY w) s = storing (.absoluteY w) 5 false s.a s := rfl
@[simp] theorem exec_staAbsX (w : Word) (s : State) : exec (.staAbsX w) s = storing (.absoluteX w) 5 false s.a s := rfl
@[simp] theorem exec_stxZp (b1 : Byte) (s : State) : exec (.stxZp b1) s = storing (.zeroPage b1) 3 false s.x s := rfl
@[simp] theorem exec_stxAbs (w : Word) (s : State) : exec (.stxAbs w) s = storing (.absolute w) 4 false s.x s := rfl
@[simp] theorem exec_stxZpY (b1 : Byte) (s : State) :
    exec (.stxZpY b1) s = storing (.zeroPageY b1) 4 false s.x s := rfl
@[simp] theorem exec_styZp (b1 : Byte) (s : State) : exec (.styZp b1) s = storing (.zeroPage b1) 3 false s.y s := rfl
@[simp] theorem exec_styAbs (w : Word) (s : State) : exec (.styAbs w) s = storing (.absolute w) 4 false s.y s := rfl
@[simp] theorem exec_styZpX (b1 : Byte) (s : State) :
    exec (.styZpX b1) s = storing (.zeroPageX b1) 4 false s.y s := rfl
@[simp] theorem exec_tax (s : State) : exec .tax s = implied 2 handleTax s := rfl
@[simp] theorem exec_tay (s : State) : exec .tay s = implied 2 handleTay s := rfl
@[simp] theorem exec_txa (s : State) : exec .txa s = implied 2 handleTxa s := rfl
@[simp] theorem exec_tya (s : State) : exec .tya s = implied 2 handleTya s := rfl
@[simp] theorem exec_tsx (s : State) : exec .tsx s = implied 2 handleTsx s := rfl
@[simp] theorem exec_txs (s : State) : exec .txs s = implied 2 handleTxs s := rfl
@[simp] theorem exec_adcIndX (zp : Byte) (s : State) :
    exec (.adcIndX zp) s = reading (.memory (.indexedIndirect zp)) 6 false handleAdc s := rfl
@[simp] theorem exec_adcZp (b1 : Byte) (s : State) :
    exec (.adcZp b1) s = reading (.memory (.zeroPage b1)) 3 false handleAdc s := rfl
@[simp] theorem exec_adcImm (v : Byte) (s : State) :
    exec (.adcImm v) s = reading (.immediate v) 2 false handleAdc s := rfl
@[simp] theorem exec_adcAbs (w : Word) (s : State) :
    exec (.adcAbs w) s = reading (.memory (.absolute w)) 4 false handleAdc s := rfl
@[simp] theorem exec_adcIndY (zp : Byte) (s : State) :
    exec (.adcIndY zp) s = reading (.memory (.indirectIndexed zp)) 5 true handleAdc s := rfl
@[simp] theorem exec_adcZpX (b1 : Byte) (s : State) :
    exec (.adcZpX b1) s = reading (.memory (.zeroPageX b1)) 4 false handleAdc s := rfl
@[simp] theorem exec_adcAbsY (w : Word) (s : State) :
    exec (.adcAbsY w) s = reading (.memory (.absoluteY w)) 4 true handleAdc s := rfl
@[simp] theorem exec_adcAbsX (w : Word) (s : State) :
    exec (.adcAbsX w) s = reading (.memory (.absoluteX w)) 4 true handleAdc s := rfl
@[simp] theorem exec_sbcIndX (zp : Byte) (s : State) :
    exec (.sbcIndX zp) s = reading (.memory (.indexedIndirect zp)) 6 false handleSbc s := rfl
@[simp] theorem exec_sbcZp (b1 : Byte) (s : State) :
    exec (.sbcZp b1) s = reading (.memory (.zeroPage b1)) 3 false handleSbc s := rfl
@[simp] theorem exec_sbcImm (v : Byte) (s : State) :
    exec (.sbcImm v) s = reading (.immediate v) 2 false handleSbc s := rfl
@[simp] theorem exec_sbcAbs (w : Word) (s : State) :
    exec (.sbcAbs w) s = reading (.memory (.absolute w)) 4 false handleSbc s := rfl
@[simp] theorem exec_sbcIndY (zp : Byte) (s : State) :
    exec (.sbcIndY zp) s = reading (.memory (.indirectIndexed zp)) 5 true handleSbc s := rfl
@[simp] theorem exec_sbcZpX (b1 : Byte) (s : State) :
    exec (.sbcZpX b1) s = reading (.memory (.zeroPageX b1)) 4 false handleSbc s := rfl
@[simp] theorem exec_sbcAbsY (w : Word) (s : State) :
    exec (.sbcAbsY w) s = reading (.memory (.absoluteY w)) 4 true handleSbc s := rfl
@[simp] theorem exec_sbcAbsX (w : Word) (s : State) :
    exec (.sbcAbsX w) s = reading (.memory (.absoluteX w)) 4 true handleSbc s := rfl
@[simp] theorem exec_cmpIndX (zp : Byte) (s : State) :
    exec (.cmpIndX zp) s = reading (.memory (.indexedIndirect zp)) 6 false handleCmp s := rfl
@[simp] theorem exec_cmpZp (b1 : Byte) (s : State) :
    exec (.cmpZp b1) s = reading (.memory (.zeroPage b1)) 3 false handleCmp s := rfl
@[simp] theorem exec_cmpImm (v : Byte) (s : State) :
    exec (.cmpImm v) s = reading (.immediate v) 2 false handleCmp s := rfl
@[simp] theorem exec_cmpAbs (w : Word) (s : State) :
    exec (.cmpAbs w) s = reading (.memory (.absolute w)) 4 false handleCmp s := rfl
@[simp] theorem exec_cmpIndY (zp : Byte) (s : State) :
    exec (.cmpIndY zp) s = reading (.memory (.indirectIndexed zp)) 5 true handleCmp s := rfl
@[simp] theorem exec_cmpZpX (b1 : Byte) (s : State) :
    exec (.cmpZpX b1) s = reading (.memory (.zeroPageX b1)) 4 false handleCmp s := rfl
@[simp] theorem exec_cmpAbsY (w : Word) (s : State) :
    exec (.cmpAbsY w) s = reading (.memory (.absoluteY w)) 4 true handleCmp s := rfl
@[simp] theorem exec_cmpAbsX (w : Word) (s : State) :
    exec (.cmpAbsX w) s = reading (.memory (.absoluteX w)) 4 true handleCmp s := rfl
@[simp] theorem exec_cpxImm (v : Byte) (s : State) :
    exec (.cpxImm v) s = reading (.immediate v) 2 false handleCpx s := rfl
@[simp] theorem exec_cpxZp (b1 : Byte) (s : State) :
    exec (.cpxZp b1) s = reading (.memory (.zeroPage b1)) 3 false handleCpx s := rfl
@[simp] theorem exec_cpxAbs (w : Word) (s : State) :
    exec (.cpxAbs w) s = reading (.memory (.absolute w)) 4 false handleCpx s := rfl
@[simp] theorem exec_cpyImm (v : Byte) (s : State) :
    exec (.cpyImm v) s = reading (.immediate v) 2 false handleCpy s := rfl
@[simp] theorem exec_cpyZp (b1 : Byte) (s : State) :
    exec (.cpyZp b1) s = reading (.memory (.zeroPage b1)) 3 false handleCpy s := rfl
@[simp] theorem exec_cpyAbs (w : Word) (s : State) :
    exec (.cpyAbs w) s = reading (.memory (.absolute w)) 4 false handleCpy s := rfl
@[simp] theorem exec_incZp (b1 : Byte) (s : State) :
    exec (.incZp b1) s = modifying (.memory (.zeroPage b1)) 5 false aluInc s := rfl
@[simp] theorem exec_incAbs (w : Word) (s : State) :
    exec (.incAbs w) s = modifying (.memory (.absolute w)) 6 false aluInc s := rfl
@[simp] theorem exec_incZpX (b1 : Byte) (s : State) :
    exec (.incZpX b1) s = modifying (.memory (.zeroPageX b1)) 6 false aluInc s := rfl
@[simp] theorem exec_incAbsX (w : Word) (s : State) :
    exec (.incAbsX w) s = modifying (.memory (.absoluteX w)) 7 false aluInc s := rfl
@[simp] theorem exec_decZp (b1 : Byte) (s : State) :
    exec (.decZp b1) s = modifying (.memory (.zeroPage b1)) 5 false aluDec s := rfl
@[simp] theorem exec_decAbs (w : Word) (s : State) :
    exec (.decAbs w) s = modifying (.memory (.absolute w)) 6 false aluDec s := rfl
@[simp] theorem exec_decZpX (b1 : Byte) (s : State) :
    exec (.decZpX b1) s = modifying (.memory (.zeroPageX b1)) 6 false aluDec s := rfl
@[simp] theorem exec_decAbsX (w : Word) (s : State) :
    exec (.decAbsX w) s = modifying (.memory (.absoluteX w)) 7 false aluDec s := rfl
@[simp] theorem exec_inx (s : State) : exec .inx s = implied 2 handleInx s := rfl
@[simp] theorem exec_iny (s : State) : exec .iny s = implied 2 handleIny s := rfl
@[simp] theorem exec_dex (s : State) : exec .dex s = implied 2 handleDex s := rfl
@[simp] theorem exec_dey (s : State) : exec .dey s = implied 2 handleDey s := rfl
@[simp] theorem exec_andIndX (zp : Byte) (s : State) :
    exec (.andIndX zp) s = reading (.memory (.indexedIndirect zp)) 6 false handleAnd s := rfl
@[simp] theorem exec_andZp (b1 : Byte) (s : State) :
    exec (.andZp b1) s = reading (.memory (.zeroPage b1)) 3 false handleAnd s := rfl
@[simp] theorem exec_andImm (v : Byte) (s : State) :
    exec (.andImm v) s = reading (.immediate v) 2 false handleAnd s := rfl
@[simp] theorem exec_andAbs (w : Word) (s : State) :
    exec (.andAbs w) s = reading (.memory (.absolute w)) 4 false handleAnd s := rfl
@[simp] theorem exec_andIndY (zp : Byte) (s : State) :
    exec (.andIndY zp) s = reading (.memory (.indirectIndexed zp)) 5 true handleAnd s := rfl
@[simp] theorem exec_andZpX (b1 : Byte) (s : State) :
    exec (.andZpX b1) s = reading (.memory (.zeroPageX b1)) 4 false handleAnd s := rfl
@[simp] theorem exec_andAbsY (w : Word) (s : State) :
    exec (.andAbsY w) s = reading (.memory (.absoluteY w)) 4 true handleAnd s := rfl
@[simp] theorem exec_andAbsX (w : Word) (s : State) :
    exec (.andAbsX w) s = reading (.memory (.absoluteX w)) 4 true handleAnd s := rfl
@[simp] theorem exec_oraIndX (zp : Byte) (s : State) :
    exec (.oraIndX zp) s = reading (.memory (.indexedIndirect zp)) 6 false handleOra s := rfl
@[simp] theorem exec_oraZp (b1 : Byte) (s : State) :
    exec (.oraZp b1) s = reading (.memory (.zeroPage b1)) 3 false handleOra s := rfl
@[simp] theorem exec_oraImm (v : Byte) (s : State) :
    exec (.oraImm v) s = reading (.immediate v) 2 false handleOra s := rfl
@[simp] theorem exec_oraAbs (w : Word) (s : State) :
    exec (.oraAbs w) s = reading (.memory (.absolute w)) 4 false handleOra s := rfl
@[simp] theorem exec_oraIndY (zp : Byte) (s : State) :
    exec (.oraIndY zp) s = reading (.memory (.indirectIndexed zp)) 5 true handleOra s := rfl
@[simp] theorem exec_oraZpX (b1 : Byte) (s : State) :
    exec (.oraZpX b1) s = reading (.memory (.zeroPageX b1)) 4 false handleOra s := rfl
@[simp] theorem exec_oraAbsY (w : Word) (s : State) :
    exec (.oraAbsY w) s = reading (.memory (.absoluteY w)) 4 true handleOra s := rfl
@[simp] theorem exec_oraAbsX (w : Word) (s : State) :
    exec (.oraAbsX w) s = reading (.memory (.absoluteX w)) 4 true handleOra s := rfl
@[simp] theorem exec_eorIndX (zp : Byte) (s : State) :
    exec (.eorIndX zp) s = reading (.memory (.indexedIndirect zp)) 6 false handleEor s := rfl
@[simp] theorem exec_eorZp (b1 : Byte) (s : State) :
    exec (.eorZp b1) s = reading (.memory (.zeroPage b1)) 3 false handleEor s := rfl
@[simp] theorem exec_eorImm (v : Byte) (s : State) :
    exec (.eorImm v) s = reading (.immediate v) 2 false handleEor s := rfl
@[simp] theorem exec_eorAbs (w : Word) (s : State) :
    exec (.eorAbs w) s = reading (.memory (.absolute w)) 4 false handleEor s := rfl
@[simp] theorem exec_eorIndY (zp : Byte) (s : State) :
    exec (.eorIndY zp) s = reading (.memory (.indirectIndexed zp)) 5 true handleEor s := rfl
@[simp] theorem exec_eorZpX (b1 : Byte) (s : State) :
    exec (.eorZpX b1) s = reading (.memory (.zeroPageX b1)) 4 false handleEor s := rfl
@[simp] theorem exec_eorAbsY (w : Word) (s : State) :
    exec (.eorAbsY w) s = reading (.memory (.absoluteY w)) 4 true handleEor s := rfl
@[simp] theorem exec_eorAbsX (w : Word) (s : State) :
    exec (.eorAbsX w) s = reading (.memory (.absoluteX w)) 4 true handleEor s := rfl
@[simp] theorem exec_bitZp (b1 : Byte) (s : State) :
    exec (.bitZp b1) s = reading (.memory (.zeroPage b1)) 3 false handleBit s := rfl
@[simp] theorem exec_bitAbs (w : Word) (s : State) :
    exec (.bitAbs w) s = reading (.memory (.absolute w)) 4 false handleBit s := rfl
@[simp] theorem exec_aslZp (b1 : Byte) (s : State) :
    exec (.aslZp b1) s = modifying (.memory (.zeroPage b1)) 5 false aluAsl s := rfl
@[simp] theorem exec_aslAcc (s : State) : exec .aslAcc s = modifying .accumulator 2 false aluAsl s := rfl
@[simp] theorem exec_aslAbs (w : Word) (s : State) :
    exec (.aslAbs w) s = modifying (.memory (.absolute w)) 6 false aluAsl s := rfl
@[simp] theorem exec_aslZpX (b1 : Byte) (s : State) :
    exec (.aslZpX b1) s = modifying (.memory (.zeroPageX b1)) 6 false aluAsl s := rfl
@[simp] theorem exec_aslAbsX (w : Word) (s : State) :
    exec (.aslAbsX w) s = modifying (.memory (.absoluteX w)) 7 false aluAsl s := rfl
@[simp] theorem exec_lsrZp (b1 : Byte) (s : State) :
    exec (.lsrZp b1) s = modifying (.memory (.zeroPage b1)) 5 false aluLsr s := rfl
@[simp] theorem exec_lsrAcc (s : State) : exec .lsrAcc s = modifying .accumulator 2 false aluLsr s := rfl
@[simp] theorem exec_lsrAbs (w : Word) (s : State) :
    exec (.lsrAbs w) s = modifying (.memory (.absolute w)) 6 false aluLsr s := rfl
@[simp] theorem exec_lsrZpX (b1 : Byte) (s : State) :
    exec (.lsrZpX b1) s = modifying (.memory (.zeroPageX b1)) 6 false aluLsr s := rfl
@[simp] theorem exec_lsrAbsX (w : Word) (s : State) :
    exec (.lsrAbsX w) s = modifying (.memory (.absoluteX w)) 7 false aluLsr s := rfl
@[simp] theorem exec_rolZp (b1 : Byte) (s : State) :
    exec (.rolZp b1) s = modifying (.memory (.zeroPage b1)) 5 false aluRol s := rfl
@[simp] theorem exec_rolAcc (s : State) : exec .rolAcc s = modifying .accumulator 2 false aluRol s := rfl
@[simp] theorem exec_rolAbs (w : Word) (s : State) :
    exec (.rolAbs w) s = modifying (.memory (.absolute w)) 6 false aluRol s := rfl
@[simp] theorem exec_rolZpX (b1 : Byte) (s : State) :
    exec (.rolZpX b1) s = modifying (.memory (.zeroPageX b1)) 6 false aluRol s := rfl
@[simp] theorem exec_rolAbsX (w : Word) (s : State) :
    exec (.rolAbsX w) s = modifying (.memory (.absoluteX w)) 7 false aluRol s := rfl
@[simp] theorem exec_rorZp (b1 : Byte) (s : State) :
    exec (.rorZp b1) s = modifying (.memory (.zeroPage b1)) 5 false aluRor s := rfl
@[simp] theorem exec_rorAcc (s : State) : exec .rorAcc s = modifying .accumulator 2 false aluRor s := rfl
@[simp] theorem exec_rorAbs (w : Word) (s : State) :
    exec (.rorAbs w) s = modifying (.memory (.absolute w)) 6 false aluRor s := rfl
@[simp] theorem exec_rorZpX (b1 : Byte) (s : State) :
    exec (.rorZpX b1) s = modifying (.memory (.zeroPageX b1)) 6 false aluRor s := rfl
@[simp] theorem exec_rorAbsX (w : Word) (s : State) :
    exec (.rorAbsX w) s = modifying (.memory (.absoluteX w)) 7 false aluRor s := rfl
@[simp] theorem exec_bpl (d : Byte) (s : State) : exec (.bpl d) s = branching .n false d 2 s := rfl
@[simp] theorem exec_bmi (d : Byte) (s : State) : exec (.bmi d) s = branching .n true d 2 s := rfl
@[simp] theorem exec_bvc (d : Byte) (s : State) : exec (.bvc d) s = branching .v false d 2 s := rfl
@[simp] theorem exec_bvs (d : Byte) (s : State) : exec (.bvs d) s = branching .v true d 2 s := rfl
@[simp] theorem exec_bcc (d : Byte) (s : State) : exec (.bcc d) s = branching .c false d 2 s := rfl
@[simp] theorem exec_bcs (d : Byte) (s : State) : exec (.bcs d) s = branching .c true d 2 s := rfl
@[simp] theorem exec_bne (d : Byte) (s : State) : exec (.bne d) s = branching .z false d 2 s := rfl
@[simp] theorem exec_beq (d : Byte) (s : State) : exec (.beq d) s = branching .z true d 2 s := rfl
@[simp] theorem exec_jmpAbs (w : Word) (s : State) : exec (.jmpAbs w) s = .next ((s.setPC w).addCycles 3) := rfl
@[simp] theorem exec_jmpInd (w : Word) (s : State) :
    exec (.jmpInd w) s = .next ((s.setPC (s.readPtrBug w)).addCycles 5) := rfl
@[simp] theorem exec_jsr (w : Word) (s : State) :
    exec (.jsr w) s = .next ((((s.advance 3).pushWord ((s.advance 3).pc - 1)).setPC w).addCycles 6) := rfl
@[simp] theorem exec_rts (s : State) : exec .rts s = implied 6 handleRts s := rfl
@[simp] theorem exec_brk (s : State) :
    exec .brk s = .next (((s.setPC (s.pc + brkReturnOffset)).takeInterrupt .brk).addCycles 7) := rfl
@[simp] theorem exec_rti (s : State) : exec .rti s = implied 6 State.returnFromInterrupt s := rfl
@[simp] theorem exec_pha (s : State) : exec .pha s = implied 3 handlePha s := rfl
@[simp] theorem exec_php (s : State) : exec .php s = implied 3 handlePhp s := rfl
@[simp] theorem exec_pla (s : State) : exec .pla s = implied 4 handlePla s := rfl
@[simp] theorem exec_plp (s : State) : exec .plp s = implied 4 handlePlp s := rfl
@[simp] theorem exec_clc (s : State) : exec .clc s = implied 2 handleClc s := rfl
@[simp] theorem exec_sec (s : State) : exec .sec s = implied 2 handleSec s := rfl
@[simp] theorem exec_cli (s : State) : exec .cli s = implied 2 handleCli s := rfl
@[simp] theorem exec_sei (s : State) : exec .sei s = implied 2 handleSei s := rfl
@[simp] theorem exec_cld (s : State) : exec .cld s = implied 2 handleCld s := rfl
@[simp] theorem exec_sed (s : State) : exec .sed s = implied 2 handleSed s := rfl
@[simp] theorem exec_clv (s : State) : exec .clv s = implied 2 handleClv s := rfl
@[simp] theorem exec_nop (s : State) : exec .nop s = implied 2 handleNop s := rfl

end Sys2Proof.Machine

/-! The mnemonic of each instruction. -/

namespace Sys2Proof

@[simp] theorem mnemonic_ldaIndX (zp : Byte) : Instr.mnemonic (.ldaIndX zp) = "LDA" := rfl
@[simp] theorem mnemonic_ldaZp (b1 : Byte) : Instr.mnemonic (.ldaZp b1) = "LDA" := rfl
@[simp] theorem mnemonic_ldaImm (v : Byte) : Instr.mnemonic (.ldaImm v) = "LDA" := rfl
@[simp] theorem mnemonic_ldaAbs (w : Word) : Instr.mnemonic (.ldaAbs w) = "LDA" := rfl
@[simp] theorem mnemonic_ldaIndY (zp : Byte) : Instr.mnemonic (.ldaIndY zp) = "LDA" := rfl
@[simp] theorem mnemonic_ldaZpX (b1 : Byte) : Instr.mnemonic (.ldaZpX b1) = "LDA" := rfl
@[simp] theorem mnemonic_ldaAbsY (w : Word) : Instr.mnemonic (.ldaAbsY w) = "LDA" := rfl
@[simp] theorem mnemonic_ldaAbsX (w : Word) : Instr.mnemonic (.ldaAbsX w) = "LDA" := rfl
@[simp] theorem mnemonic_ldxImm (v : Byte) : Instr.mnemonic (.ldxImm v) = "LDX" := rfl
@[simp] theorem mnemonic_ldxZp (b1 : Byte) : Instr.mnemonic (.ldxZp b1) = "LDX" := rfl
@[simp] theorem mnemonic_ldxAbs (w : Word) : Instr.mnemonic (.ldxAbs w) = "LDX" := rfl
@[simp] theorem mnemonic_ldxZpY (b1 : Byte) : Instr.mnemonic (.ldxZpY b1) = "LDX" := rfl
@[simp] theorem mnemonic_ldxAbsY (w : Word) : Instr.mnemonic (.ldxAbsY w) = "LDX" := rfl
@[simp] theorem mnemonic_ldyImm (v : Byte) : Instr.mnemonic (.ldyImm v) = "LDY" := rfl
@[simp] theorem mnemonic_ldyZp (b1 : Byte) : Instr.mnemonic (.ldyZp b1) = "LDY" := rfl
@[simp] theorem mnemonic_ldyAbs (w : Word) : Instr.mnemonic (.ldyAbs w) = "LDY" := rfl
@[simp] theorem mnemonic_ldyZpX (b1 : Byte) : Instr.mnemonic (.ldyZpX b1) = "LDY" := rfl
@[simp] theorem mnemonic_ldyAbsX (w : Word) : Instr.mnemonic (.ldyAbsX w) = "LDY" := rfl
@[simp] theorem mnemonic_staIndX (zp : Byte) : Instr.mnemonic (.staIndX zp) = "STA" := rfl
@[simp] theorem mnemonic_staZp (b1 : Byte) : Instr.mnemonic (.staZp b1) = "STA" := rfl
@[simp] theorem mnemonic_staAbs (w : Word) : Instr.mnemonic (.staAbs w) = "STA" := rfl
@[simp] theorem mnemonic_staIndY (zp : Byte) : Instr.mnemonic (.staIndY zp) = "STA" := rfl
@[simp] theorem mnemonic_staZpX (b1 : Byte) : Instr.mnemonic (.staZpX b1) = "STA" := rfl
@[simp] theorem mnemonic_staAbsY (w : Word) : Instr.mnemonic (.staAbsY w) = "STA" := rfl
@[simp] theorem mnemonic_staAbsX (w : Word) : Instr.mnemonic (.staAbsX w) = "STA" := rfl
@[simp] theorem mnemonic_stxZp (b1 : Byte) : Instr.mnemonic (.stxZp b1) = "STX" := rfl
@[simp] theorem mnemonic_stxAbs (w : Word) : Instr.mnemonic (.stxAbs w) = "STX" := rfl
@[simp] theorem mnemonic_stxZpY (b1 : Byte) : Instr.mnemonic (.stxZpY b1) = "STX" := rfl
@[simp] theorem mnemonic_styZp (b1 : Byte) : Instr.mnemonic (.styZp b1) = "STY" := rfl
@[simp] theorem mnemonic_styAbs (w : Word) : Instr.mnemonic (.styAbs w) = "STY" := rfl
@[simp] theorem mnemonic_styZpX (b1 : Byte) : Instr.mnemonic (.styZpX b1) = "STY" := rfl
@[simp] theorem mnemonic_tax : Instr.mnemonic .tax = "TAX" := rfl
@[simp] theorem mnemonic_tay : Instr.mnemonic .tay = "TAY" := rfl
@[simp] theorem mnemonic_txa : Instr.mnemonic .txa = "TXA" := rfl
@[simp] theorem mnemonic_tya : Instr.mnemonic .tya = "TYA" := rfl
@[simp] theorem mnemonic_tsx : Instr.mnemonic .tsx = "TSX" := rfl
@[simp] theorem mnemonic_txs : Instr.mnemonic .txs = "TXS" := rfl
@[simp] theorem mnemonic_adcIndX (zp : Byte) : Instr.mnemonic (.adcIndX zp) = "ADC" := rfl
@[simp] theorem mnemonic_adcZp (b1 : Byte) : Instr.mnemonic (.adcZp b1) = "ADC" := rfl
@[simp] theorem mnemonic_adcImm (v : Byte) : Instr.mnemonic (.adcImm v) = "ADC" := rfl
@[simp] theorem mnemonic_adcAbs (w : Word) : Instr.mnemonic (.adcAbs w) = "ADC" := rfl
@[simp] theorem mnemonic_adcIndY (zp : Byte) : Instr.mnemonic (.adcIndY zp) = "ADC" := rfl
@[simp] theorem mnemonic_adcZpX (b1 : Byte) : Instr.mnemonic (.adcZpX b1) = "ADC" := rfl
@[simp] theorem mnemonic_adcAbsY (w : Word) : Instr.mnemonic (.adcAbsY w) = "ADC" := rfl
@[simp] theorem mnemonic_adcAbsX (w : Word) : Instr.mnemonic (.adcAbsX w) = "ADC" := rfl
@[simp] theorem mnemonic_sbcIndX (zp : Byte) : Instr.mnemonic (.sbcIndX zp) = "SBC" := rfl
@[simp] theorem mnemonic_sbcZp (b1 : Byte) : Instr.mnemonic (.sbcZp b1) = "SBC" := rfl
@[simp] theorem mnemonic_sbcImm (v : Byte) : Instr.mnemonic (.sbcImm v) = "SBC" := rfl
@[simp] theorem mnemonic_sbcAbs (w : Word) : Instr.mnemonic (.sbcAbs w) = "SBC" := rfl
@[simp] theorem mnemonic_sbcIndY (zp : Byte) : Instr.mnemonic (.sbcIndY zp) = "SBC" := rfl
@[simp] theorem mnemonic_sbcZpX (b1 : Byte) : Instr.mnemonic (.sbcZpX b1) = "SBC" := rfl
@[simp] theorem mnemonic_sbcAbsY (w : Word) : Instr.mnemonic (.sbcAbsY w) = "SBC" := rfl
@[simp] theorem mnemonic_sbcAbsX (w : Word) : Instr.mnemonic (.sbcAbsX w) = "SBC" := rfl
@[simp] theorem mnemonic_cmpIndX (zp : Byte) : Instr.mnemonic (.cmpIndX zp) = "CMP" := rfl
@[simp] theorem mnemonic_cmpZp (b1 : Byte) : Instr.mnemonic (.cmpZp b1) = "CMP" := rfl
@[simp] theorem mnemonic_cmpImm (v : Byte) : Instr.mnemonic (.cmpImm v) = "CMP" := rfl
@[simp] theorem mnemonic_cmpAbs (w : Word) : Instr.mnemonic (.cmpAbs w) = "CMP" := rfl
@[simp] theorem mnemonic_cmpIndY (zp : Byte) : Instr.mnemonic (.cmpIndY zp) = "CMP" := rfl
@[simp] theorem mnemonic_cmpZpX (b1 : Byte) : Instr.mnemonic (.cmpZpX b1) = "CMP" := rfl
@[simp] theorem mnemonic_cmpAbsY (w : Word) : Instr.mnemonic (.cmpAbsY w) = "CMP" := rfl
@[simp] theorem mnemonic_cmpAbsX (w : Word) : Instr.mnemonic (.cmpAbsX w) = "CMP" := rfl
@[simp] theorem mnemonic_cpxImm (v : Byte) : Instr.mnemonic (.cpxImm v) = "CPX" := rfl
@[simp] theorem mnemonic_cpxZp (b1 : Byte) : Instr.mnemonic (.cpxZp b1) = "CPX" := rfl
@[simp] theorem mnemonic_cpxAbs (w : Word) : Instr.mnemonic (.cpxAbs w) = "CPX" := rfl
@[simp] theorem mnemonic_cpyImm (v : Byte) : Instr.mnemonic (.cpyImm v) = "CPY" := rfl
@[simp] theorem mnemonic_cpyZp (b1 : Byte) : Instr.mnemonic (.cpyZp b1) = "CPY" := rfl
@[simp] theorem mnemonic_cpyAbs (w : Word) : Instr.mnemonic (.cpyAbs w) = "CPY" := rfl
@[simp] theorem mnemonic_incZp (b1 : Byte) : Instr.mnemonic (.incZp b1) = "INC" := rfl
@[simp] theorem mnemonic_incAbs (w : Word) : Instr.mnemonic (.incAbs w) = "INC" := rfl
@[simp] theorem mnemonic_incZpX (b1 : Byte) : Instr.mnemonic (.incZpX b1) = "INC" := rfl
@[simp] theorem mnemonic_incAbsX (w : Word) : Instr.mnemonic (.incAbsX w) = "INC" := rfl
@[simp] theorem mnemonic_decZp (b1 : Byte) : Instr.mnemonic (.decZp b1) = "DEC" := rfl
@[simp] theorem mnemonic_decAbs (w : Word) : Instr.mnemonic (.decAbs w) = "DEC" := rfl
@[simp] theorem mnemonic_decZpX (b1 : Byte) : Instr.mnemonic (.decZpX b1) = "DEC" := rfl
@[simp] theorem mnemonic_decAbsX (w : Word) : Instr.mnemonic (.decAbsX w) = "DEC" := rfl
@[simp] theorem mnemonic_inx : Instr.mnemonic .inx = "INX" := rfl
@[simp] theorem mnemonic_iny : Instr.mnemonic .iny = "INY" := rfl
@[simp] theorem mnemonic_dex : Instr.mnemonic .dex = "DEX" := rfl
@[simp] theorem mnemonic_dey : Instr.mnemonic .dey = "DEY" := rfl
@[simp] theorem mnemonic_andIndX (zp : Byte) : Instr.mnemonic (.andIndX zp) = "AND" := rfl
@[simp] theorem mnemonic_andZp (b1 : Byte) : Instr.mnemonic (.andZp b1) = "AND" := rfl
@[simp] theorem mnemonic_andImm (v : Byte) : Instr.mnemonic (.andImm v) = "AND" := rfl
@[simp] theorem mnemonic_andAbs (w : Word) : Instr.mnemonic (.andAbs w) = "AND" := rfl
@[simp] theorem mnemonic_andIndY (zp : Byte) : Instr.mnemonic (.andIndY zp) = "AND" := rfl
@[simp] theorem mnemonic_andZpX (b1 : Byte) : Instr.mnemonic (.andZpX b1) = "AND" := rfl
@[simp] theorem mnemonic_andAbsY (w : Word) : Instr.mnemonic (.andAbsY w) = "AND" := rfl
@[simp] theorem mnemonic_andAbsX (w : Word) : Instr.mnemonic (.andAbsX w) = "AND" := rfl
@[simp] theorem mnemonic_oraIndX (zp : Byte) : Instr.mnemonic (.oraIndX zp) = "ORA" := rfl
@[simp] theorem mnemonic_oraZp (b1 : Byte) : Instr.mnemonic (.oraZp b1) = "ORA" := rfl
@[simp] theorem mnemonic_oraImm (v : Byte) : Instr.mnemonic (.oraImm v) = "ORA" := rfl
@[simp] theorem mnemonic_oraAbs (w : Word) : Instr.mnemonic (.oraAbs w) = "ORA" := rfl
@[simp] theorem mnemonic_oraIndY (zp : Byte) : Instr.mnemonic (.oraIndY zp) = "ORA" := rfl
@[simp] theorem mnemonic_oraZpX (b1 : Byte) : Instr.mnemonic (.oraZpX b1) = "ORA" := rfl
@[simp] theorem mnemonic_oraAbsY (w : Word) : Instr.mnemonic (.oraAbsY w) = "ORA" := rfl
@[simp] theorem mnemonic_oraAbsX (w : Word) : Instr.mnemonic (.oraAbsX w) = "ORA" := rfl
@[simp] theorem mnemonic_eorIndX (zp : Byte) : Instr.mnemonic (.eorIndX zp) = "EOR" := rfl
@[simp] theorem mnemonic_eorZp (b1 : Byte) : Instr.mnemonic (.eorZp b1) = "EOR" := rfl
@[simp] theorem mnemonic_eorImm (v : Byte) : Instr.mnemonic (.eorImm v) = "EOR" := rfl
@[simp] theorem mnemonic_eorAbs (w : Word) : Instr.mnemonic (.eorAbs w) = "EOR" := rfl
@[simp] theorem mnemonic_eorIndY (zp : Byte) : Instr.mnemonic (.eorIndY zp) = "EOR" := rfl
@[simp] theorem mnemonic_eorZpX (b1 : Byte) : Instr.mnemonic (.eorZpX b1) = "EOR" := rfl
@[simp] theorem mnemonic_eorAbsY (w : Word) : Instr.mnemonic (.eorAbsY w) = "EOR" := rfl
@[simp] theorem mnemonic_eorAbsX (w : Word) : Instr.mnemonic (.eorAbsX w) = "EOR" := rfl
@[simp] theorem mnemonic_bitZp (b1 : Byte) : Instr.mnemonic (.bitZp b1) = "BIT" := rfl
@[simp] theorem mnemonic_bitAbs (w : Word) : Instr.mnemonic (.bitAbs w) = "BIT" := rfl
@[simp] theorem mnemonic_aslZp (b1 : Byte) : Instr.mnemonic (.aslZp b1) = "ASL" := rfl
@[simp] theorem mnemonic_aslAcc : Instr.mnemonic .aslAcc = "ASL" := rfl
@[simp] theorem mnemonic_aslAbs (w : Word) : Instr.mnemonic (.aslAbs w) = "ASL" := rfl
@[simp] theorem mnemonic_aslZpX (b1 : Byte) : Instr.mnemonic (.aslZpX b1) = "ASL" := rfl
@[simp] theorem mnemonic_aslAbsX (w : Word) : Instr.mnemonic (.aslAbsX w) = "ASL" := rfl
@[simp] theorem mnemonic_lsrZp (b1 : Byte) : Instr.mnemonic (.lsrZp b1) = "LSR" := rfl
@[simp] theorem mnemonic_lsrAcc : Instr.mnemonic .lsrAcc = "LSR" := rfl
@[simp] theorem mnemonic_lsrAbs (w : Word) : Instr.mnemonic (.lsrAbs w) = "LSR" := rfl
@[simp] theorem mnemonic_lsrZpX (b1 : Byte) : Instr.mnemonic (.lsrZpX b1) = "LSR" := rfl
@[simp] theorem mnemonic_lsrAbsX (w : Word) : Instr.mnemonic (.lsrAbsX w) = "LSR" := rfl
@[simp] theorem mnemonic_rolZp (b1 : Byte) : Instr.mnemonic (.rolZp b1) = "ROL" := rfl
@[simp] theorem mnemonic_rolAcc : Instr.mnemonic .rolAcc = "ROL" := rfl
@[simp] theorem mnemonic_rolAbs (w : Word) : Instr.mnemonic (.rolAbs w) = "ROL" := rfl
@[simp] theorem mnemonic_rolZpX (b1 : Byte) : Instr.mnemonic (.rolZpX b1) = "ROL" := rfl
@[simp] theorem mnemonic_rolAbsX (w : Word) : Instr.mnemonic (.rolAbsX w) = "ROL" := rfl
@[simp] theorem mnemonic_rorZp (b1 : Byte) : Instr.mnemonic (.rorZp b1) = "ROR" := rfl
@[simp] theorem mnemonic_rorAcc : Instr.mnemonic .rorAcc = "ROR" := rfl
@[simp] theorem mnemonic_rorAbs (w : Word) : Instr.mnemonic (.rorAbs w) = "ROR" := rfl
@[simp] theorem mnemonic_rorZpX (b1 : Byte) : Instr.mnemonic (.rorZpX b1) = "ROR" := rfl
@[simp] theorem mnemonic_rorAbsX (w : Word) : Instr.mnemonic (.rorAbsX w) = "ROR" := rfl
@[simp] theorem mnemonic_bpl (d : Byte) : Instr.mnemonic (.bpl d) = "BPL" := rfl
@[simp] theorem mnemonic_bmi (d : Byte) : Instr.mnemonic (.bmi d) = "BMI" := rfl
@[simp] theorem mnemonic_bvc (d : Byte) : Instr.mnemonic (.bvc d) = "BVC" := rfl
@[simp] theorem mnemonic_bvs (d : Byte) : Instr.mnemonic (.bvs d) = "BVS" := rfl
@[simp] theorem mnemonic_bcc (d : Byte) : Instr.mnemonic (.bcc d) = "BCC" := rfl
@[simp] theorem mnemonic_bcs (d : Byte) : Instr.mnemonic (.bcs d) = "BCS" := rfl
@[simp] theorem mnemonic_bne (d : Byte) : Instr.mnemonic (.bne d) = "BNE" := rfl
@[simp] theorem mnemonic_beq (d : Byte) : Instr.mnemonic (.beq d) = "BEQ" := rfl
@[simp] theorem mnemonic_jmpAbs (w : Word) : Instr.mnemonic (.jmpAbs w) = "JMP" := rfl
@[simp] theorem mnemonic_jmpInd (w : Word) : Instr.mnemonic (.jmpInd w) = "JMP" := rfl
@[simp] theorem mnemonic_jsr (w : Word) : Instr.mnemonic (.jsr w) = "JSR" := rfl
@[simp] theorem mnemonic_rts : Instr.mnemonic .rts = "RTS" := rfl
@[simp] theorem mnemonic_brk : Instr.mnemonic .brk = "BRK" := rfl
@[simp] theorem mnemonic_rti : Instr.mnemonic .rti = "RTI" := rfl
@[simp] theorem mnemonic_pha : Instr.mnemonic .pha = "PHA" := rfl
@[simp] theorem mnemonic_php : Instr.mnemonic .php = "PHP" := rfl
@[simp] theorem mnemonic_pla : Instr.mnemonic .pla = "PLA" := rfl
@[simp] theorem mnemonic_plp : Instr.mnemonic .plp = "PLP" := rfl
@[simp] theorem mnemonic_clc : Instr.mnemonic .clc = "CLC" := rfl
@[simp] theorem mnemonic_sec : Instr.mnemonic .sec = "SEC" := rfl
@[simp] theorem mnemonic_cli : Instr.mnemonic .cli = "CLI" := rfl
@[simp] theorem mnemonic_sei : Instr.mnemonic .sei = "SEI" := rfl
@[simp] theorem mnemonic_cld : Instr.mnemonic .cld = "CLD" := rfl
@[simp] theorem mnemonic_sed : Instr.mnemonic .sed = "SED" := rfl
@[simp] theorem mnemonic_clv : Instr.mnemonic .clv = "CLV" := rfl
@[simp] theorem mnemonic_nop : Instr.mnemonic .nop = "NOP" := rfl

end Sys2Proof
end

