-- ==== Sys2Proof/Laws/PerInstr.lean ====
section
/-! SUPPORT. The per-instruction family EncodedLength (spec/30_encoding.md R91): one lemma for each constructor. -/

namespace Sys2Proof.Laws.EncodedLength

/-- An instruction has a record, and its encoding has `1 + operandBytes(mode)` bytes, for the mode of that record
(R91). -/
def Statement (i : Instr) : Prop :=
  ∃ r, i.record = some r ∧ (encode i).length = 1 + r.mode.operandBytes

theorem ldaIndX (zp : Byte) : Statement (.ldaIndX zp) := ⟨_, rfl, rfl⟩
theorem ldaZp (b1 : Byte) : Statement (.ldaZp b1) := ⟨_, rfl, rfl⟩
theorem ldaImm (v : Byte) : Statement (.ldaImm v) := ⟨_, rfl, rfl⟩
theorem ldaAbs (w : Word) : Statement (.ldaAbs w) := ⟨_, rfl, rfl⟩
theorem ldaIndY (zp : Byte) : Statement (.ldaIndY zp) := ⟨_, rfl, rfl⟩
theorem ldaZpX (b1 : Byte) : Statement (.ldaZpX b1) := ⟨_, rfl, rfl⟩
theorem ldaAbsY (w : Word) : Statement (.ldaAbsY w) := ⟨_, rfl, rfl⟩
theorem ldaAbsX (w : Word) : Statement (.ldaAbsX w) := ⟨_, rfl, rfl⟩
theorem ldxImm (v : Byte) : Statement (.ldxImm v) := ⟨_, rfl, rfl⟩
theorem ldxZp (b1 : Byte) : Statement (.ldxZp b1) := ⟨_, rfl, rfl⟩
theorem ldxAbs (w : Word) : Statement (.ldxAbs w) := ⟨_, rfl, rfl⟩
theorem ldxZpY (b1 : Byte) : Statement (.ldxZpY b1) := ⟨_, rfl, rfl⟩
theorem ldxAbsY (w : Word) : Statement (.ldxAbsY w) := ⟨_, rfl, rfl⟩
theorem ldyImm (v : Byte) : Statement (.ldyImm v) := ⟨_, rfl, rfl⟩
theorem ldyZp (b1 : Byte) : Statement (.ldyZp b1) := ⟨_, rfl, rfl⟩
theorem ldyAbs (w : Word) : Statement (.ldyAbs w) := ⟨_, rfl, rfl⟩
theorem ldyZpX (b1 : Byte) : Statement (.ldyZpX b1) := ⟨_, rfl, rfl⟩
theorem ldyAbsX (w : Word) : Statement (.ldyAbsX w) := ⟨_, rfl, rfl⟩
theorem staIndX (zp : Byte) : Statement (.staIndX zp) := ⟨_, rfl, rfl⟩
theorem staZp (b1 : Byte) : Statement (.staZp b1) := ⟨_, rfl, rfl⟩
theorem staAbs (w : Word) : Statement (.staAbs w) := ⟨_, rfl, rfl⟩
theorem staIndY (zp : Byte) : Statement (.staIndY zp) := ⟨_, rfl, rfl⟩
theorem staZpX (b1 : Byte) : Statement (.staZpX b1) := ⟨_, rfl, rfl⟩
theorem staAbsY (w : Word) : Statement (.staAbsY w) := ⟨_, rfl, rfl⟩
theorem staAbsX (w : Word) : Statement (.staAbsX w) := ⟨_, rfl, rfl⟩
theorem stxZp (b1 : Byte) : Statement (.stxZp b1) := ⟨_, rfl, rfl⟩
theorem stxAbs (w : Word) : Statement (.stxAbs w) := ⟨_, rfl, rfl⟩
theorem stxZpY (b1 : Byte) : Statement (.stxZpY b1) := ⟨_, rfl, rfl⟩
theorem styZp (b1 : Byte) : Statement (.styZp b1) := ⟨_, rfl, rfl⟩
theorem styAbs (w : Word) : Statement (.styAbs w) := ⟨_, rfl, rfl⟩
theorem styZpX (b1 : Byte) : Statement (.styZpX b1) := ⟨_, rfl, rfl⟩
theorem tax : Statement (.tax) := ⟨_, rfl, rfl⟩
theorem tay : Statement (.tay) := ⟨_, rfl, rfl⟩
theorem txa : Statement (.txa) := ⟨_, rfl, rfl⟩
theorem tya : Statement (.tya) := ⟨_, rfl, rfl⟩
theorem tsx : Statement (.tsx) := ⟨_, rfl, rfl⟩
theorem txs : Statement (.txs) := ⟨_, rfl, rfl⟩
theorem adcIndX (zp : Byte) : Statement (.adcIndX zp) := ⟨_, rfl, rfl⟩
theorem adcZp (b1 : Byte) : Statement (.adcZp b1) := ⟨_, rfl, rfl⟩
theorem adcImm (v : Byte) : Statement (.adcImm v) := ⟨_, rfl, rfl⟩
theorem adcAbs (w : Word) : Statement (.adcAbs w) := ⟨_, rfl, rfl⟩
theorem adcIndY (zp : Byte) : Statement (.adcIndY zp) := ⟨_, rfl, rfl⟩
theorem adcZpX (b1 : Byte) : Statement (.adcZpX b1) := ⟨_, rfl, rfl⟩
theorem adcAbsY (w : Word) : Statement (.adcAbsY w) := ⟨_, rfl, rfl⟩
theorem adcAbsX (w : Word) : Statement (.adcAbsX w) := ⟨_, rfl, rfl⟩
theorem sbcIndX (zp : Byte) : Statement (.sbcIndX zp) := ⟨_, rfl, rfl⟩
theorem sbcZp (b1 : Byte) : Statement (.sbcZp b1) := ⟨_, rfl, rfl⟩
theorem sbcImm (v : Byte) : Statement (.sbcImm v) := ⟨_, rfl, rfl⟩
theorem sbcAbs (w : Word) : Statement (.sbcAbs w) := ⟨_, rfl, rfl⟩
theorem sbcIndY (zp : Byte) : Statement (.sbcIndY zp) := ⟨_, rfl, rfl⟩
theorem sbcZpX (b1 : Byte) : Statement (.sbcZpX b1) := ⟨_, rfl, rfl⟩
theorem sbcAbsY (w : Word) : Statement (.sbcAbsY w) := ⟨_, rfl, rfl⟩
theorem sbcAbsX (w : Word) : Statement (.sbcAbsX w) := ⟨_, rfl, rfl⟩
theorem cmpIndX (zp : Byte) : Statement (.cmpIndX zp) := ⟨_, rfl, rfl⟩
theorem cmpZp (b1 : Byte) : Statement (.cmpZp b1) := ⟨_, rfl, rfl⟩
theorem cmpImm (v : Byte) : Statement (.cmpImm v) := ⟨_, rfl, rfl⟩
theorem cmpAbs (w : Word) : Statement (.cmpAbs w) := ⟨_, rfl, rfl⟩
theorem cmpIndY (zp : Byte) : Statement (.cmpIndY zp) := ⟨_, rfl, rfl⟩
theorem cmpZpX (b1 : Byte) : Statement (.cmpZpX b1) := ⟨_, rfl, rfl⟩
theorem cmpAbsY (w : Word) : Statement (.cmpAbsY w) := ⟨_, rfl, rfl⟩
theorem cmpAbsX (w : Word) : Statement (.cmpAbsX w) := ⟨_, rfl, rfl⟩
theorem cpxImm (v : Byte) : Statement (.cpxImm v) := ⟨_, rfl, rfl⟩
theorem cpxZp (b1 : Byte) : Statement (.cpxZp b1) := ⟨_, rfl, rfl⟩
theorem cpxAbs (w : Word) : Statement (.cpxAbs w) := ⟨_, rfl, rfl⟩
theorem cpyImm (v : Byte) : Statement (.cpyImm v) := ⟨_, rfl, rfl⟩
theorem cpyZp (b1 : Byte) : Statement (.cpyZp b1) := ⟨_, rfl, rfl⟩
theorem cpyAbs (w : Word) : Statement (.cpyAbs w) := ⟨_, rfl, rfl⟩
theorem incZp (b1 : Byte) : Statement (.incZp b1) := ⟨_, rfl, rfl⟩
theorem incAbs (w : Word) : Statement (.incAbs w) := ⟨_, rfl, rfl⟩
theorem incZpX (b1 : Byte) : Statement (.incZpX b1) := ⟨_, rfl, rfl⟩
theorem incAbsX (w : Word) : Statement (.incAbsX w) := ⟨_, rfl, rfl⟩
theorem decZp (b1 : Byte) : Statement (.decZp b1) := ⟨_, rfl, rfl⟩
theorem decAbs (w : Word) : Statement (.decAbs w) := ⟨_, rfl, rfl⟩
theorem decZpX (b1 : Byte) : Statement (.decZpX b1) := ⟨_, rfl, rfl⟩
theorem decAbsX (w : Word) : Statement (.decAbsX w) := ⟨_, rfl, rfl⟩
theorem inx : Statement (.inx) := ⟨_, rfl, rfl⟩
theorem iny : Statement (.iny) := ⟨_, rfl, rfl⟩
theorem dex : Statement (.dex) := ⟨_, rfl, rfl⟩
theorem dey : Statement (.dey) := ⟨_, rfl, rfl⟩
theorem andIndX (zp : Byte) : Statement (.andIndX zp) := ⟨_, rfl, rfl⟩
theorem andZp (b1 : Byte) : Statement (.andZp b1) := ⟨_, rfl, rfl⟩
theorem andImm (v : Byte) : Statement (.andImm v) := ⟨_, rfl, rfl⟩
theorem andAbs (w : Word) : Statement (.andAbs w) := ⟨_, rfl, rfl⟩
theorem andIndY (zp : Byte) : Statement (.andIndY zp) := ⟨_, rfl, rfl⟩
theorem andZpX (b1 : Byte) : Statement (.andZpX b1) := ⟨_, rfl, rfl⟩
theorem andAbsY (w : Word) : Statement (.andAbsY w) := ⟨_, rfl, rfl⟩
theorem andAbsX (w : Word) : Statement (.andAbsX w) := ⟨_, rfl, rfl⟩
theorem oraIndX (zp : Byte) : Statement (.oraIndX zp) := ⟨_, rfl, rfl⟩
theorem oraZp (b1 : Byte) : Statement (.oraZp b1) := ⟨_, rfl, rfl⟩
theorem oraImm (v : Byte) : Statement (.oraImm v) := ⟨_, rfl, rfl⟩
theorem oraAbs (w : Word) : Statement (.oraAbs w) := ⟨_, rfl, rfl⟩
theorem oraIndY (zp : Byte) : Statement (.oraIndY zp) := ⟨_, rfl, rfl⟩
theorem oraZpX (b1 : Byte) : Statement (.oraZpX b1) := ⟨_, rfl, rfl⟩
theorem oraAbsY (w : Word) : Statement (.oraAbsY w) := ⟨_, rfl, rfl⟩
theorem oraAbsX (w : Word) : Statement (.oraAbsX w) := ⟨_, rfl, rfl⟩
theorem eorIndX (zp : Byte) : Statement (.eorIndX zp) := ⟨_, rfl, rfl⟩
theorem eorZp (b1 : Byte) : Statement (.eorZp b1) := ⟨_, rfl, rfl⟩
theorem eorImm (v : Byte) : Statement (.eorImm v) := ⟨_, rfl, rfl⟩
theorem eorAbs (w : Word) : Statement (.eorAbs w) := ⟨_, rfl, rfl⟩
theorem eorIndY (zp : Byte) : Statement (.eorIndY zp) := ⟨_, rfl, rfl⟩
theorem eorZpX (b1 : Byte) : Statement (.eorZpX b1) := ⟨_, rfl, rfl⟩
theorem eorAbsY (w : Word) : Statement (.eorAbsY w) := ⟨_, rfl, rfl⟩
theorem eorAbsX (w : Word) : Statement (.eorAbsX w) := ⟨_, rfl, rfl⟩
theorem bitZp (b1 : Byte) : Statement (.bitZp b1) := ⟨_, rfl, rfl⟩
theorem bitAbs (w : Word) : Statement (.bitAbs w) := ⟨_, rfl, rfl⟩
theorem aslZp (b1 : Byte) : Statement (.aslZp b1) := ⟨_, rfl, rfl⟩
theorem aslAcc : Statement (.aslAcc) := ⟨_, rfl, rfl⟩
theorem aslAbs (w : Word) : Statement (.aslAbs w) := ⟨_, rfl, rfl⟩
theorem aslZpX (b1 : Byte) : Statement (.aslZpX b1) := ⟨_, rfl, rfl⟩
theorem aslAbsX (w : Word) : Statement (.aslAbsX w) := ⟨_, rfl, rfl⟩
theorem lsrZp (b1 : Byte) : Statement (.lsrZp b1) := ⟨_, rfl, rfl⟩
theorem lsrAcc : Statement (.lsrAcc) := ⟨_, rfl, rfl⟩
theorem lsrAbs (w : Word) : Statement (.lsrAbs w) := ⟨_, rfl, rfl⟩
theorem lsrZpX (b1 : Byte) : Statement (.lsrZpX b1) := ⟨_, rfl, rfl⟩
theorem lsrAbsX (w : Word) : Statement (.lsrAbsX w) := ⟨_, rfl, rfl⟩
theorem rolZp (b1 : Byte) : Statement (.rolZp b1) := ⟨_, rfl, rfl⟩
theorem rolAcc : Statement (.rolAcc) := ⟨_, rfl, rfl⟩
theorem rolAbs (w : Word) : Statement (.rolAbs w) := ⟨_, rfl, rfl⟩
theorem rolZpX (b1 : Byte) : Statement (.rolZpX b1) := ⟨_, rfl, rfl⟩
theorem rolAbsX (w : Word) : Statement (.rolAbsX w) := ⟨_, rfl, rfl⟩
theorem rorZp (b1 : Byte) : Statement (.rorZp b1) := ⟨_, rfl, rfl⟩
theorem rorAcc : Statement (.rorAcc) := ⟨_, rfl, rfl⟩
theorem rorAbs (w : Word) : Statement (.rorAbs w) := ⟨_, rfl, rfl⟩
theorem rorZpX (b1 : Byte) : Statement (.rorZpX b1) := ⟨_, rfl, rfl⟩
theorem rorAbsX (w : Word) : Statement (.rorAbsX w) := ⟨_, rfl, rfl⟩
theorem bpl (d : Byte) : Statement (.bpl d) := ⟨_, rfl, rfl⟩
theorem bmi (d : Byte) : Statement (.bmi d) := ⟨_, rfl, rfl⟩
theorem bvc (d : Byte) : Statement (.bvc d) := ⟨_, rfl, rfl⟩
theorem bvs (d : Byte) : Statement (.bvs d) := ⟨_, rfl, rfl⟩
theorem bcc (d : Byte) : Statement (.bcc d) := ⟨_, rfl, rfl⟩
theorem bcs (d : Byte) : Statement (.bcs d) := ⟨_, rfl, rfl⟩
theorem bne (d : Byte) : Statement (.bne d) := ⟨_, rfl, rfl⟩
theorem beq (d : Byte) : Statement (.beq d) := ⟨_, rfl, rfl⟩
theorem jmpAbs (w : Word) : Statement (.jmpAbs w) := ⟨_, rfl, rfl⟩
theorem jmpInd (w : Word) : Statement (.jmpInd w) := ⟨_, rfl, rfl⟩
theorem jsr (w : Word) : Statement (.jsr w) := ⟨_, rfl, rfl⟩
theorem rts : Statement (.rts) := ⟨_, rfl, rfl⟩
theorem brk : Statement (.brk) := ⟨_, rfl, rfl⟩
theorem rti : Statement (.rti) := ⟨_, rfl, rfl⟩
theorem pha : Statement (.pha) := ⟨_, rfl, rfl⟩
theorem php : Statement (.php) := ⟨_, rfl, rfl⟩
theorem pla : Statement (.pla) := ⟨_, rfl, rfl⟩
theorem plp : Statement (.plp) := ⟨_, rfl, rfl⟩
theorem clc : Statement (.clc) := ⟨_, rfl, rfl⟩
theorem sec : Statement (.sec) := ⟨_, rfl, rfl⟩
theorem cli : Statement (.cli) := ⟨_, rfl, rfl⟩
theorem sei : Statement (.sei) := ⟨_, rfl, rfl⟩
theorem cld : Statement (.cld) := ⟨_, rfl, rfl⟩
theorem sed : Statement (.sed) := ⟨_, rfl, rfl⟩
theorem clv : Statement (.clv) := ⟨_, rfl, rfl⟩
theorem nop : Statement (.nop) := ⟨_, rfl, rfl⟩

end Sys2Proof.Laws.EncodedLength
end

