-- ==== Sys2Proof/Laws/Session.lean ====
section
/-! SUPPORT. What a call in a session can do, said once. -/

namespace Sys2Proof.Machine

theorem Session.answer_next {e f : Session} {out : Out} (h : e.answer out = .next f) :
    out = .next f.chip ∧ f.loaded = e.loaded := by
  cases out <;> cases h
  exact ⟨rfl, rfl⟩

/-- R84, U11: a call that a session admits is a step once the load has completed, the one load, or another host call; only
the load changes whether the load has completed. -/
theorem sessionCall_cases {k : Parameters} {c : SessionCall} {e f : Session} (h : sessionCall k c e = .next f) :
    (c = .step ∧ e.loaded = true ∧ f.loaded = true ∧ stepWith k e.chip = .next f.chip) ∨
    (∃ bytes origin, c = .host (.load bytes origin) ∧ e.loaded = false ∧ f.loaded = true ∧
      hostCall (.load bytes origin) e.chip = .next f.chip) ∨
    (∃ call, c = .host call ∧ (∀ bytes origin, call ≠ .load bytes origin) ∧ f.loaded = e.loaded ∧
      hostCall call e.chip = .next f.chip) := by
  cases c with
  | step =>
    simp only [sessionCall, Session.step] at h
    split at h
    next hl =>
      obtain ⟨h1, h2⟩ := Session.answer_next h
      exact .inl ⟨rfl, hl, h2.trans hl, h1⟩
    next => cases h
  | host call =>
    cases call with
    | load bytes origin =>
      simp only [sessionCall, Session.load] at h
      split at h
      next => cases h
      next hl =>
        obtain ⟨h1, h2⟩ := Session.answer_next h
        exact .inr (.inl ⟨bytes, origin, rfl, by simpa using hl, h2, h1⟩)
    | _ =>
      simp only [sessionCall] at h
      obtain ⟨h1, h2⟩ := Session.answer_next h
      exact .inr (.inr ⟨_, rfl, by simp, h2, h1⟩)

end Sys2Proof.Machine
end

