-- ==== Sys2Proof/Laws/Step.lean ====
section
/-! SUPPORT. What a step can do, said once; what storing bytes does; and the canonical form through both. -/

namespace Sys2Proof.Machine

/-- R265, R266: the event a boundary can take. -/
theorem boundaryEvent_cases {s t : State} (h : boundaryEvent s = some t) :
    (s.haltRequest = true ∧ t = s.enterHalted) ∨
    (s.haltRequest = false ∧ s.nmiPending = true ∧ t = s.serviceNmi) ∨
    (s.haltRequest = false ∧ s.nmiPending = false ∧ s.irqLine = true ∧ getFlag s.p .i = false ∧ t = s.serviceIrq) := by
  unfold boundaryEvent at h
  split at h
  next h1 => exact .inl ⟨h1, by cases h; rfl⟩
  next h1 =>
    split at h
    next h2 => exact .inr (.inl ⟨by simpa using h1, h2, by cases h; rfl⟩)
    next h2 =>
      split at h
      next h3 =>
        simp only [Bool.and_eq_true, Bool.not_eq_true'] at h3
        exact .inr (.inr ⟨by simpa using h1, by simpa using h2, h3.1, h3.2, by cases h; rfl⟩)
      next => cases h

/-! The parameters of R7 at their defaults. -/

theorem lookupWith_standard (op : Byte) : lookupWith standardParameters op = lookup op := by
  cases h : lookup op <;> simp [lookupWith, standardParameters, h]

/-- A set that leaves an opcode out takes its entry away (R7, R97). -/
theorem lookupWith_undefined {k : Parameters} {op : Byte} (h : k.definedOpcodes op = false) : lookupWith k op = none := by
  simp [lookupWith, h]

theorem fetch_eq (s : State) :
    fetch s = match lookup (s.read8 s.pc) with
      | none => .error (s.read8 s.pc)
      | some record => .ok (record.format.assemble (s.read8 (s.pc + 1)) (s.read8 (s.pc + 2))) := by
  simp only [fetch, fetchWith, lookupWith_standard] <;> rfl

theorem execWith_standard (i : Instr) (s : State) : execWith standardParameters i s = exec i s := by
  cases i <;> rfl

/-- R92 with the parameters at their defaults. -/
theorem step_eq (s : State) :
    step s = match stepBlocked s with
      | some f => .fault f
      | none =>
        match boundaryEvent s with
        | some t => .next t
        | none =>
          match fetch s with
          | .error op => .next (s.enterFaulted op)
          | .ok i => exec i s := by
  simp only [step, stepWith, execWith_standard, fetch] <;> rfl

/-- R92: everything a step that answers a next state can be, whatever the parameters: from the ready engine, a boundary
event, the undefined-instruction fault, or the instruction fetched at `PC`. -/
theorem stepWith_cases {k : Parameters} {s t : State} (h : stepWith k s = .next t) :
    s.engine = .ready ∧
    (boundaryEvent s = some t ∨
      (boundaryEvent s = none ∧ lookupWith k (s.read8 s.pc) = none ∧ t = s.enterFaulted (s.read8 s.pc)) ∨
      (boundaryEvent s = none ∧ ∃ i, fetchWith k s = .ok i ∧ execWith k i s = .next t)) := by
  have he : s.engine = .ready := by
    cases hh : s.engine <;> simp [stepWith, stepBlocked, hh] at h
    rfl
  refine ⟨he, ?_⟩
  simp only [stepWith, stepBlocked, he] at h
  split at h
  next b hb => exact .inl (by cases h; exact hb)
  next hb =>
    split at h
    next op hop =>
      cases h
      unfold fetchWith at hop
      dsimp only at hop
      split at hop
      next hl =>
        cases hop
        exact .inr (.inl ⟨hb, hl, rfl⟩)
      next => cases hop
    next i hi => exact .inr (.inr ⟨hb, i, hi, h⟩)

/-- The same with the parameters at their defaults. -/
theorem step_cases {s t : State} (h : step s = .next t) :
    s.engine = .ready ∧
    (boundaryEvent s = some t ∨
      (boundaryEvent s = none ∧ lookup (s.read8 s.pc) = none ∧ t = s.enterFaulted (s.read8 s.pc)) ∨
      (boundaryEvent s = none ∧ ∃ i, fetch s = .ok i ∧ exec i s = .next t)) := by
  simpa only [lookupWith_standard, execWith_standard, fetch] using stepWith_cases (k := standardParameters) h

theorem State.wf_serviceNmi {s : State} (h : Memory.wf s.mem = true) : Memory.wf s.serviceNmi.mem = true := by
  rw [State.serviceNmi, State.addCycles_mem]
  exact State.wf_takeInterrupt _ h

theorem State.wf_serviceIrq {s : State} (h : Memory.wf s.mem = true) : Memory.wf s.serviceIrq.mem = true := by
  rw [State.serviceIrq, State.addCycles_mem]
  exact State.wf_takeInterrupt _ h

/-- Storing bytes changes memory alone (R83). -/
theorem State.storeBytes_frame (bytes : List Byte) (s : State) (addr : Word) :
    s.storeBytes addr bytes = s.setMem (s.storeBytes addr bytes).mem := by
  induction bytes generalizing s addr with
  | nil => rfl
  | cons b l ih =>
    simp only [State.storeBytes]
    rw [ih]
    rfl

theorem State.wf_storeBytes (bytes : List Byte) {s : State} (addr : Word) (h : Memory.wf s.mem = true) :
    Memory.wf (s.storeBytes addr bytes).mem = true := by
  induction bytes generalizing s addr with
  | nil => exact h
  | cons b l ih => exact ih (addr + 1) (State.wf_write8 addr b h)

end Sys2Proof.Machine
end

