-- ==== Sys2Proof/Tests/Slice0.lean ====
section
/-! SUPPORT. Tests. Every expected result is the spec's: the words of spec/30_encoding.md R96 and R97, the worked examples
and the vectors of spec/95_test_vectors.md. -/

namespace Sys2Proof.Tests

open Sys2Proof.Machine

/-! Helpers: a small state by the conventions of the vectors, and what one step leaves. -/

/-- Registers as given, every input low, the cells given, and the instruction's bytes at `PC`. -/
def start (pc : Word) (a x y sp p : Byte) (cells : List (Word × Byte)) (bytes : List Byte) : State :=
  (cells.foldl (fun (s : State) cell => s.write8 cell.1 cell.2)
    { State.reset with pc := pc, a := a, x := x, y := y, sp := sp, p := p }).storeBytes pc bytes

/-- The state an answer leads to, if there is one. -/
def nextOf : Out → Option State
  | .next t => some t
  | .fault _ => none
  | .refused _ => none

/-- The state after one step, if there is one. -/
def after (s : State) : Option State := nextOf (step s)

/-- What a vector lists: the registers, the cycles, and the bytes at the addresses it names. -/
structure Seen where
  a : Byte
  x : Byte
  y : Byte
  sp : Byte
  p : Byte
  pc : Word
  cycles : Nat
  bytes : List Byte
  deriving DecidableEq

/-- What a vector sees after one step. -/
def ran (s : State) (addrs : List Word) : Option Seen :=
  (after s).map fun t => ⟨t.a, t.x, t.y, t.sp, t.p, t.pc, t.cycles, addrs.map t.read8⟩

/-! Well-formedness: the one check, with the terms it refuses. -/

theorem test_flag_bit_check : flagBitWellFormed 7 = true ∧ flagBitWellFormed 8 = false := by decide

/-- V165: `setFlag(8, true)` is refused by name, and `isFlagSet(8)` too. -/
theorem test_ill_formed_flag_bit_refused :
    hostCall (.setFlag 8 true) State.reset matches .refused (.flagBitOutOfRange 8) ∧
    State.reset.hostIsFlagSet 8 matches .error (.flagBitOutOfRange 8) := by decide

/-- R99: no operand makes an instruction ill formed. -/
theorem test_every_operand_well_formed :
    (Instr.ldaImm 0xFF).wellFormed = true ∧ (Instr.bne 0x80).wellFormed = true ∧
    (Instr.jmpInd 0xFFFF).wellFormed = true := by decide

/-! Decoding: for each row of the opcode map, every cell, from words written out from R96 (the opcode is the least
significant byte, then the operand bytes in address order, R90). -/

theorem test_decode_opcodes_0x :
    decodeTableWord 8 0x00 = some .brk ∧
    decodeTableWord 16 0xC501 = some (.oraIndX 0xC5) ∧
    decodeTableWord 16 0xC505 = some (.oraZp 0xC5) ∧
    decodeTableWord 16 0xC506 = some (.aslZp 0xC5) ∧
    decodeTableWord 8 0x08 = some .php ∧
    decodeTableWord 16 0xC509 = some (.oraImm 0xC5) ∧
    decodeTableWord 8 0x0A = some .aslAcc ∧
    decodeTableWord 24 0x12340D = some (.oraAbs 0x1234) ∧
    decodeTableWord 24 0x12340E = some (.aslAbs 0x1234) := by
  decide

theorem test_decode_opcodes_1x :
    decodeTableWord 16 0xC510 = some (.bpl 0xC5) ∧
    decodeTableWord 16 0xC511 = some (.oraIndY 0xC5) ∧
    decodeTableWord 16 0xC515 = some (.oraZpX 0xC5) ∧
    decodeTableWord 16 0xC516 = some (.aslZpX 0xC5) ∧
    decodeTableWord 8 0x18 = some .clc ∧
    decodeTableWord 24 0x123419 = some (.oraAbsY 0x1234) ∧
    decodeTableWord 24 0x12341D = some (.oraAbsX 0x1234) ∧
    decodeTableWord 24 0x12341E = some (.aslAbsX 0x1234) := by
  decide

theorem test_decode_opcodes_2x :
    decodeTableWord 24 0x123420 = some (.jsr 0x1234) ∧
    decodeTableWord 16 0xC521 = some (.andIndX 0xC5) ∧
    decodeTableWord 16 0xC524 = some (.bitZp 0xC5) ∧
    decodeTableWord 16 0xC525 = some (.andZp 0xC5) ∧
    decodeTableWord 16 0xC526 = some (.rolZp 0xC5) ∧
    decodeTableWord 8 0x28 = some .plp ∧
    decodeTableWord 16 0xC529 = some (.andImm 0xC5) ∧
    decodeTableWord 8 0x2A = some .rolAcc ∧
    decodeTableWord 24 0x12342C = some (.bitAbs 0x1234) ∧
    decodeTableWord 24 0x12342D = some (.andAbs 0x1234) ∧
    decodeTableWord 24 0x12342E = some (.rolAbs 0x1234) := by
  decide

theorem test_decode_opcodes_3x :
    decodeTableWord 16 0xC530 = some (.bmi 0xC5) ∧
    decodeTableWord 16 0xC531 = some (.andIndY 0xC5) ∧
    decodeTableWord 16 0xC535 = some (.andZpX 0xC5) ∧
    decodeTableWord 16 0xC536 = some (.rolZpX 0xC5) ∧
    decodeTableWord 8 0x38 = some .sec ∧
    decodeTableWord 24 0x123439 = some (.andAbsY 0x1234) ∧
    decodeTableWord 24 0x12343D = some (.andAbsX 0x1234) ∧
    decodeTableWord 24 0x12343E = some (.rolAbsX 0x1234) := by
  decide

theorem test_decode_opcodes_4x :
    decodeTableWord 8 0x40 = some .rti ∧
    decodeTableWord 16 0xC541 = some (.eorIndX 0xC5) ∧
    decodeTableWord 16 0xC545 = some (.eorZp 0xC5) ∧
    decodeTableWord 16 0xC546 = some (.lsrZp 0xC5) ∧
    decodeTableWord 8 0x48 = some .pha ∧
    decodeTableWord 16 0xC549 = some (.eorImm 0xC5) ∧
    decodeTableWord 8 0x4A = some .lsrAcc ∧
    decodeTableWord 24 0x12344C = some (.jmpAbs 0x1234) ∧
    decodeTableWord 24 0x12344D = some (.eorAbs 0x1234) ∧
    decodeTableWord 24 0x12344E = some (.lsrAbs 0x1234) := by
  decide

theorem test_decode_opcodes_5x :
    decodeTableWord 16 0xC550 = some (.bvc 0xC5) ∧
    decodeTableWord 16 0xC551 = some (.eorIndY 0xC5) ∧
    decodeTableWord 16 0xC555 = some (.eorZpX 0xC5) ∧
    decodeTableWord 16 0xC556 = some (.lsrZpX 0xC5) ∧
    decodeTableWord 8 0x58 = some .cli ∧
    decodeTableWord 24 0x123459 = some (.eorAbsY 0x1234) ∧
    decodeTableWord 24 0x12345D = some (.eorAbsX 0x1234) ∧
    decodeTableWord 24 0x12345E = some (.lsrAbsX 0x1234) := by
  decide

theorem test_decode_opcodes_6x :
    decodeTableWord 8 0x60 = some .rts ∧
    decodeTableWord 16 0xC561 = some (.adcIndX 0xC5) ∧
    decodeTableWord 16 0xC565 = some (.adcZp 0xC5) ∧
    decodeTableWord 16 0xC566 = some (.rorZp 0xC5) ∧
    decodeTableWord 8 0x68 = some .pla ∧
    decodeTableWord 16 0xC569 = some (.adcImm 0xC5) ∧
    decodeTableWord 8 0x6A = some .rorAcc ∧
    decodeTableWord 24 0x12346C = some (.jmpInd 0x1234) ∧
    decodeTableWord 24 0x12346D = some (.adcAbs 0x1234) ∧
    decodeTableWord 24 0x12346E = some (.rorAbs 0x1234) := by
  decide

theorem test_decode_opcodes_7x :
    decodeTableWord 16 0xC570 = some (.bvs 0xC5) ∧
    decodeTableWord 16 0xC571 = some (.adcIndY 0xC5) ∧
    decodeTableWord 16 0xC575 = some (.adcZpX 0xC5) ∧
    decodeTableWord 16 0xC576 = some (.rorZpX 0xC5) ∧
    decodeTableWord 8 0x78 = some .sei ∧
    decodeTableWord 24 0x123479 = some (.adcAbsY 0x1234) ∧
    decodeTableWord 24 0x12347D = some (.adcAbsX 0x1234) ∧
    decodeTableWord 24 0x12347E = some (.rorAbsX 0x1234) := by
  decide

theorem test_decode_opcodes_8x :
    decodeTableWord 16 0xC581 = some (.staIndX 0xC5) ∧
    decodeTableWord 16 0xC584 = some (.styZp 0xC5) ∧
    decodeTableWord 16 0xC585 = some (.staZp 0xC5) ∧
    decodeTableWord 16 0xC586 = some (.stxZp 0xC5) ∧
    decodeTableWord 8 0x88 = some .dey ∧
    decodeTableWord 8 0x8A = some .txa ∧
    decodeTableWord 24 0x12348C = some (.styAbs 0x1234) ∧
    decodeTableWord 24 0x12348D = some (.staAbs 0x1234) ∧
    decodeTableWord 24 0x12348E = some (.stxAbs 0x1234) := by
  decide

theorem test_decode_opcodes_9x :
    decodeTableWord 16 0xC590 = some (.bcc 0xC5) ∧
    decodeTableWord 16 0xC591 = some (.staIndY 0xC5) ∧
    decodeTableWord 16 0xC594 = some (.styZpX 0xC5) ∧
    decodeTableWord 16 0xC595 = some (.staZpX 0xC5) ∧
    decodeTableWord 16 0xC596 = some (.stxZpY 0xC5) ∧
    decodeTableWord 8 0x98 = some .tya ∧
    decodeTableWord 24 0x123499 = some (.staAbsY 0x1234) ∧
    decodeTableWord 8 0x9A = some .txs ∧
    decodeTableWord 24 0x12349D = some (.staAbsX 0x1234) := by
  decide

theorem test_decode_opcodes_Ax :
    decodeTableWord 16 0xC5A0 = some (.ldyImm 0xC5) ∧
    decodeTableWord 16 0xC5A1 = some (.ldaIndX 0xC5) ∧
    decodeTableWord 16 0xC5A2 = some (.ldxImm 0xC5) ∧
    decodeTableWord 16 0xC5A4 = some (.ldyZp 0xC5) ∧
    decodeTableWord 16 0xC5A5 = some (.ldaZp 0xC5) ∧
    decodeTableWord 16 0xC5A6 = some (.ldxZp 0xC5) ∧
    decodeTableWord 8 0xA8 = some .tay ∧
    decodeTableWord 16 0xC5A9 = some (.ldaImm 0xC5) ∧
    decodeTableWord 8 0xAA = some .tax ∧
    decodeTableWord 24 0x1234AC = some (.ldyAbs 0x1234) ∧
    decodeTableWord 24 0x1234AD = some (.ldaAbs 0x1234) ∧
    decodeTableWord 24 0x1234AE = some (.ldxAbs 0x1234) := by
  decide

theorem test_decode_opcodes_Bx :
    decodeTableWord 16 0xC5B0 = some (.bcs 0xC5) ∧
    decodeTableWord 16 0xC5B1 = some (.ldaIndY 0xC5) ∧
    decodeTableWord 16 0xC5B4 = some (.ldyZpX 0xC5) ∧
    decodeTableWord 16 0xC5B5 = some (.ldaZpX 0xC5) ∧
    decodeTableWord 16 0xC5B6 = some (.ldxZpY 0xC5) ∧
    decodeTableWord 8 0xB8 = some .clv ∧
    decodeTableWord 24 0x1234B9 = some (.ldaAbsY 0x1234) ∧
    decodeTableWord 8 0xBA = some .tsx ∧
    decodeTableWord 24 0x1234BC = some (.ldyAbsX 0x1234) ∧
    decodeTableWord 24 0x1234BD = some (.ldaAbsX 0x1234) ∧
    decodeTableWord 24 0x1234BE = some (.ldxAbsY 0x1234) := by
  decide

theorem test_decode_opcodes_Cx :
    decodeTableWord 16 0xC5C0 = some (.cpyImm 0xC5) ∧
    decodeTableWord 16 0xC5C1 = some (.cmpIndX 0xC5) ∧
    decodeTableWord 16 0xC5C4 = some (.cpyZp 0xC5) ∧
    decodeTableWord 16 0xC5C5 = some (.cmpZp 0xC5) ∧
    decodeTableWord 16 0xC5C6 = some (.decZp 0xC5) ∧
    decodeTableWord 8 0xC8 = some .iny ∧
    decodeTableWord 16 0xC5C9 = some (.cmpImm 0xC5) ∧
    decodeTableWord 8 0xCA = some .dex ∧
    decodeTableWord 24 0x1234CC = some (.cpyAbs 0x1234) ∧
    decodeTableWord 24 0x1234CD = some (.cmpAbs 0x1234) ∧
    decodeTableWord 24 0x1234CE = some (.decAbs 0x1234) := by
  decide

theorem test_decode_opcodes_Dx :
    decodeTableWord 16 0xC5D0 = some (.bne 0xC5) ∧
    decodeTableWord 16 0xC5D1 = some (.cmpIndY 0xC5) ∧
    decodeTableWord 16 0xC5D5 = some (.cmpZpX 0xC5) ∧
    decodeTableWord 16 0xC5D6 = some (.decZpX 0xC5) ∧
    decodeTableWord 8 0xD8 = some .cld ∧
    decodeTableWord 24 0x1234D9 = some (.cmpAbsY 0x1234) ∧
    decodeTableWord 24 0x1234DD = some (.cmpAbsX 0x1234) ∧
    decodeTableWord 24 0x1234DE = some (.decAbsX 0x1234) := by
  decide

theorem test_decode_opcodes_Ex :
    decodeTableWord 16 0xC5E0 = some (.cpxImm 0xC5) ∧
    decodeTableWord 16 0xC5E1 = some (.sbcIndX 0xC5) ∧
    decodeTableWord 16 0xC5E4 = some (.cpxZp 0xC5) ∧
    decodeTableWord 16 0xC5E5 = some (.sbcZp 0xC5) ∧
    decodeTableWord 16 0xC5E6 = some (.incZp 0xC5) ∧
    decodeTableWord 8 0xE8 = some .inx ∧
    decodeTableWord 16 0xC5E9 = some (.sbcImm 0xC5) ∧
    decodeTableWord 8 0xEA = some .nop ∧
    decodeTableWord 24 0x1234EC = some (.cpxAbs 0x1234) ∧
    decodeTableWord 24 0x1234ED = some (.sbcAbs 0x1234) ∧
    decodeTableWord 24 0x1234EE = some (.incAbs 0x1234) := by
  decide

theorem test_decode_opcodes_Fx :
    decodeTableWord 16 0xC5F0 = some (.beq 0xC5) ∧
    decodeTableWord 16 0xC5F1 = some (.sbcIndY 0xC5) ∧
    decodeTableWord 16 0xC5F5 = some (.sbcZpX 0xC5) ∧
    decodeTableWord 16 0xC5F6 = some (.incZpX 0xC5) ∧
    decodeTableWord 8 0xF8 = some .sed ∧
    decodeTableWord 24 0x1234F9 = some (.sbcAbsY 0x1234) ∧
    decodeTableWord 24 0x1234FD = some (.sbcAbsX 0x1234) ∧
    decodeTableWord 24 0x1234FE = some (.incAbsX 0x1234) := by
  decide

/-- R97: each of the 105 undefined bytes is refused by name, whatever follows it. -/
theorem test_undefined_opcodes_refused :
    ([0x02, 0x03, 0x04, 0x07, 0x0B, 0x0C, 0x0F, 0x12, 0x13, 0x14, 0x17, 0x1A, 0x1B, 0x1C, 0x1F, 0x22, 0x23, 0x27,
      0x2B, 0x2F, 0x32, 0x33, 0x34, 0x37, 0x3A, 0x3B, 0x3C, 0x3F, 0x42, 0x43, 0x44, 0x47, 0x4B, 0x4F, 0x52, 0x53,
      0x54, 0x57, 0x5A, 0x5B, 0x5C, 0x5F, 0x62, 0x63, 0x64, 0x67, 0x6B, 0x6F, 0x72, 0x73, 0x74, 0x77, 0x7A, 0x7B,
      0x7C, 0x7F, 0x80, 0x82, 0x83, 0x87, 0x89, 0x8B, 0x8F, 0x92, 0x93, 0x97, 0x9B, 0x9C, 0x9E, 0x9F, 0xA3, 0xA7,
      0xAB, 0xAF, 0xB2, 0xB3, 0xB7, 0xBB, 0xBF, 0xC2, 0xC3, 0xC7, 0xCB, 0xCF, 0xD2, 0xD3, 0xD4, 0xD7, 0xDA, 0xDB,
      0xDC, 0xDF, 0xE2, 0xE3, 0xE7, 0xEB, 0xEF, 0xF2, 0xF3, 0xF4, 0xF7, 0xFA, 0xFB, 0xFC, 0xFF] : List Byte).all
      (fun op => decode [op, 0x00, 0x00] matches .error (.undefinedOpcode _)) = true := by
  decide

/-- R90: a 16-bit operand is encoded low byte first, and a 1-byte instruction as its opcode alone. -/
theorem test_encode_words :
    encode (.ldaAbs 0x1234) = [0xAD, 0x34, 0x12] ∧ encode (.bne 0xFA) = [0xD0, 0xFA] ∧ encode .inx = [0xE8] ∧
    encode (.jmpInd 0x30FF) = [0x6C, 0xFF, 0x30] := by decide

/-- A byte list that ends inside an instruction is refused as truncated. -/
theorem test_truncated_refused :
    decode [0xAD, 0x34] matches .error .truncated ∧ decode [] matches .error .truncated := by decide

/-! Instructions: the vectors of the spec, one step each. -/

/-- spec/95_test_vectors.md V1, V2, V3, V4. -/
theorem test_lda_vectors :
    (ran (start 0x8000 0x55 0x00 0x00 0xFD 0x24 [] [0xA9, 0x00]) []
      = some ⟨0x00, 0x00, 0x00, 0xFD, 0x26, 0x8002, 2, []⟩) ∧
    (ran (start 0x8000 0x00 0x00 0x00 0xFD 0x24 [] [0xA9, 0x80]) []
      = some ⟨0x80, 0x00, 0x00, 0xFD, 0xA4, 0x8002, 2, []⟩) ∧
    (ran (start 0x8000 0x00 0xF5 0x00 0xFD 0x24 [(0x0005, 0x42)] [0xB5, 0x10]) []
      = some ⟨0x42, 0xF5, 0x00, 0xFD, 0x24, 0x8002, 4, []⟩) ∧
    (ran (start 0x8000 0x00 0x20 0x00 0xFD 0x24 [(0x8110, 0x01)] [0xBD, 0xF0, 0x80]) []
      = some ⟨0x01, 0x20, 0x00, 0xFD, 0x24, 0x8003, 5, []⟩) := by
  decide

/-- spec/95_test_vectors.md V5, V6, V110, V111, V112, V113, V114, V116, V119, V120. -/
theorem test_lda_vectors_more :
    (ran (start 0x8000 0x00 0x20 0x00 0xFD 0x24 [(0x8030, 0x7F)] [0xBD, 0x10, 0x80]) []
      = some ⟨0x7F, 0x20, 0x00, 0xFD, 0x24, 0x8003, 4, []⟩) ∧
    (ran (start 0x8000 0x00 0x00 0x01 0xFD 0x24 [(0x0000, 0x33)] [0xB9, 0xFF, 0xFF]) []
      = some ⟨0x33, 0x00, 0x01, 0xFD, 0x24, 0x8003, 5, []⟩) ∧
    (ran (start 0x8000 0x00 0x04 0x00 0xFD 0x24 [(0x0024, 0x00), (0x0025, 0x03), (0x0300, 0x99)] [0xA1, 0x20]) []
      = some ⟨0x99, 0x04, 0x00, 0xFD, 0xA4, 0x8002, 6, []⟩) ∧
    (ran (start 0x8000 0x00 0x00 0x00 0xFD 0x24 [(0x0000, 0x12), (0x00FF, 0x34), (0x1234, 0x56)] [0xA1, 0xFF]) []
      = some ⟨0x56, 0x00, 0x00, 0xFD, 0x24, 0x8002, 6, []⟩) ∧
    (ran (start 0x8000 0x00 0x05 0x00 0xFD 0x24 [(0x0000, 0x00), (0x0001, 0x04), (0x0400, 0x77)] [0xA1, 0xFB]) []
      = some ⟨0x77, 0x05, 0x00, 0xFD, 0x24, 0x8002, 6, []⟩) ∧
    (ran (start 0x8000 0x00 0x00 0x10 0xFD 0x24 [(0x0040, 0xF8), (0x0041, 0x12), (0x1308, 0x5A)] [0xB1, 0x40]) []
      = some ⟨0x5A, 0x00, 0x10, 0xFD, 0x24, 0x8002, 6, []⟩) ∧
    (ran (start 0x8000 0x00 0x00 0x01 0xFD 0x24 [(0x0040, 0x00), (0x0041, 0x12), (0x1201, 0x01)] [0xB1, 0x40]) []
      = some ⟨0x01, 0x00, 0x01, 0xFD, 0x24, 0x8002, 5, []⟩) ∧
    (ran (start 0x8000 0x00 0x00 0x00 0xFD 0x24 [(0x0000, 0x20), (0x00FF, 0x00), (0x2000, 0x11)] [0xB1, 0xFF]) []
      = some ⟨0x11, 0x00, 0x00, 0xFD, 0x24, 0x8002, 5, []⟩) ∧
    (ran (start 0x8000 0x00 0x00 0x00 0xFD 0x24 [(0x0010, 0x01)] [0xA5, 0x10]) []
      = some ⟨0x01, 0x00, 0x00, 0xFD, 0x24, 0x8002, 3, []⟩) ∧
    (ran (start 0x8000 0x00 0x00 0x00 0xFD 0x24 [(0x1234, 0x00)] [0xAD, 0x34, 0x12]) []
      = some ⟨0x00, 0x00, 0x00, 0xFD, 0x26, 0x8003, 4, []⟩) := by
  decide

/-- spec/95_test_vectors.md V7. -/
theorem test_ldx_vectors :
    (ran (start 0x8000 0x00 0x00 0xF8 0xFD 0x24 [(0x0008, 0xFF)] [0xB6, 0x10]) []
      = some ⟨0x00, 0xFF, 0xF8, 0xFD, 0xA4, 0x8002, 4, []⟩) := by
  decide

/-- spec/95_test_vectors.md V8. -/
theorem test_ldy_vectors :
    (ran (start 0x8000 0x00 0x00 0x12 0xFD 0x24 [] [0xA0, 0x00]) []
      = some ⟨0x00, 0x00, 0x00, 0xFD, 0x26, 0x8002, 2, []⟩) := by
  decide

/-- spec/95_test_vectors.md V9, V10, V115. -/
theorem test_sta_vectors :
    (ran (start 0x8000 0x0F 0x00 0x00 0xFD 0x24 [] [0x8D, 0x00, 0x02]) [0x0200]
      = some ⟨0x0F, 0x00, 0x00, 0xFD, 0x24, 0x8003, 4, [0x0F]⟩) ∧
    (ran (start 0x8000 0x11 0x20 0x00 0xFD 0x24 [] [0x9D, 0xF0, 0x80]) [0x8110]
      = some ⟨0x11, 0x20, 0x00, 0xFD, 0x24, 0x8003, 5, [0x11]⟩) ∧
    (ran (start 0x8000 0xAB 0x00 0x10 0xFD 0x24 [(0x0040, 0xF8), (0x0041, 0x12)] [0x91, 0x40]) [0x1308]
      = some ⟨0xAB, 0x00, 0x10, 0xFD, 0x24, 0x8002, 6, [0xAB]⟩) := by
  decide

/-- spec/95_test_vectors.md V11. -/
theorem test_stx_vectors :
    (ran (start 0x8000 0x00 0x22 0xF5 0xFD 0x24 [] [0x96, 0x10]) [0x0005]
      = some ⟨0x00, 0x22, 0xF5, 0xFD, 0x24, 0x8002, 4, [0x22]⟩) := by
  decide

/-- spec/95_test_vectors.md V12. -/
theorem test_sty_vectors :
    (ran (start 0x8000 0x00 0x00 0x01 0xFD 0x24 [] [0x84, 0x34]) [0x0034]
      = some ⟨0x00, 0x00, 0x01, 0xFD, 0x24, 0x8002, 3, [0x01]⟩) := by
  decide

/-- spec/95_test_vectors.md V13. -/
theorem test_tax_vectors :
    (ran (start 0x8000 0x80 0x00 0x00 0xFD 0x24 [] [0xAA]) []
      = some ⟨0x80, 0x80, 0x00, 0xFD, 0xA4, 0x8001, 2, []⟩) := by
  decide

/-- spec/95_test_vectors.md V14. -/
theorem test_tay_vectors :
    (ran (start 0x8000 0x00 0x00 0x05 0xFD 0x24 [] [0xA8]) []
      = some ⟨0x00, 0x00, 0x00, 0xFD, 0x26, 0x8001, 2, []⟩) := by
  decide

/-- spec/95_test_vectors.md V15. -/
theorem test_txa_vectors :
    (ran (start 0x8000 0x01 0x7F 0x00 0xFD 0x24 [] [0x8A]) []
      = some ⟨0x7F, 0x7F, 0x00, 0xFD, 0x24, 0x8001, 2, []⟩) := by
  decide

/-- spec/95_test_vectors.md V16. -/
theorem test_tya_vectors :
    (ran (start 0x8000 0x00 0x00 0xFE 0xFD 0x24 [] [0x98]) []
      = some ⟨0xFE, 0x00, 0xFE, 0xFD, 0xA4, 0x8001, 2, []⟩) := by
  decide

/-- spec/95_test_vectors.md V17. -/
theorem test_tsx_vectors :
    (ran (start 0x8000 0x00 0x00 0x00 0xFD 0x24 [] [0xBA]) []
      = some ⟨0x00, 0xFD, 0x00, 0xFD, 0xA4, 0x8001, 2, []⟩) := by
  decide

/-- spec/95_test_vectors.md V18. -/
theorem test_txs_vectors :
    (ran (start 0x8000 0x00 0x00 0x00 0xFD 0x24 [] [0x9A]) []
      = some ⟨0x00, 0x00, 0x00, 0x00, 0x24, 0x8001, 2, []⟩) := by
  decide

/-- spec/95_test_vectors.md V20, V21, V22, V23. -/
theorem test_adc_vectors :
    (ran (start 0x8000 0xFF 0x00 0x00 0xFD 0x24 [] [0x69, 0x01]) []
      = some ⟨0x00, 0x00, 0x00, 0xFD, 0x27, 0x8002, 2, []⟩) ∧
    (ran (start 0x8000 0x7F 0x00 0x00 0xFD 0x24 [] [0x69, 0x01]) []
      = some ⟨0x80, 0x00, 0x00, 0xFD, 0xE4, 0x8002, 2, []⟩) ∧
    (ran (start 0x8000 0x80 0x00 0x00 0xFD 0x24 [] [0x69, 0xFF]) []
      = some ⟨0x7F, 0x00, 0x00, 0xFD, 0x65, 0x8002, 2, []⟩) ∧
    (ran (start 0x8000 0xFF 0x00 0x00 0xFD 0x25 [] [0x69, 0xFF]) []
      = some ⟨0xFF, 0x00, 0x00, 0xFD, 0xA5, 0x8002, 2, []⟩) := by
  decide

/-- spec/95_test_vectors.md V24. -/
theorem test_adc_vectors_more :
    (ran (start 0x8000 0x09 0x00 0x00 0xFD 0x2C [] [0x69, 0x01]) []
      = some ⟨0x0A, 0x00, 0x00, 0xFD, 0x2C, 0x8002, 2, []⟩) := by
  decide

/-- spec/95_test_vectors.md V25, V26, V27, V28. -/
theorem test_sbc_vectors :
    (ran (start 0x8000 0x50 0x00 0x00 0xFD 0x25 [] [0xE9, 0xF0]) []
      = some ⟨0x60, 0x00, 0x00, 0xFD, 0x24, 0x8002, 2, []⟩) ∧
    (ran (start 0x8000 0x50 0x00 0x00 0xFD 0x25 [] [0xE9, 0xB0]) []
      = some ⟨0xA0, 0x00, 0x00, 0xFD, 0xE4, 0x8002, 2, []⟩) ∧
    (ran (start 0x8000 0x00 0x00 0x00 0xFD 0x25 [] [0xE9, 0x01]) []
      = some ⟨0xFF, 0x00, 0x00, 0xFD, 0xA4, 0x8002, 2, []⟩) ∧
    (ran (start 0x8000 0x05 0x00 0x00 0xFD 0x24 [] [0xE9, 0x03]) []
      = some ⟨0x01, 0x00, 0x00, 0xFD, 0x25, 0x8002, 2, []⟩) := by
  decide

/-- spec/95_test_vectors.md V29, V30. -/
theorem test_sbc_vectors_more :
    (ran (start 0x8000 0x80 0x00 0x00 0xFD 0x25 [] [0xE9, 0x01]) []
      = some ⟨0x7F, 0x00, 0x00, 0xFD, 0x65, 0x8002, 2, []⟩) ∧
    (ran (start 0x8000 0x42 0x00 0x00 0xFD 0x25 [] [0xE9, 0x00]) []
      = some ⟨0x42, 0x00, 0x00, 0xFD, 0x25, 0x8002, 2, []⟩) := by
  decide

/-- spec/95_test_vectors.md V31, V32, V33, V34. -/
theorem test_cmp_vectors :
    (ran (start 0x8000 0x10 0x00 0x00 0xFD 0x24 [] [0xC9, 0x20]) []
      = some ⟨0x10, 0x00, 0x00, 0xFD, 0xA4, 0x8002, 2, []⟩) ∧
    (ran (start 0x8000 0x20 0x00 0x00 0xFD 0x24 [] [0xC9, 0x10]) []
      = some ⟨0x20, 0x00, 0x00, 0xFD, 0x25, 0x8002, 2, []⟩) ∧
    (ran (start 0x8000 0x00 0x00 0x00 0xFD 0x24 [] [0xC9, 0x80]) []
      = some ⟨0x00, 0x00, 0x00, 0xFD, 0xA4, 0x8002, 2, []⟩) ∧
    (ran (start 0x8000 0xFF 0x00 0x00 0xFD 0x24 [] [0xC9, 0x00]) []
      = some ⟨0xFF, 0x00, 0x00, 0xFD, 0xA5, 0x8002, 2, []⟩) := by
  decide

/-- spec/95_test_vectors.md V35. -/
theorem test_cmp_vectors_more :
    (ran (start 0x8000 0x10 0x00 0x00 0xFD 0x64 [] [0xC9, 0x10]) []
      = some ⟨0x10, 0x00, 0x00, 0xFD, 0x67, 0x8002, 2, []⟩) := by
  decide

/-- spec/95_test_vectors.md V36. -/
theorem test_cpx_vectors :
    (ran (start 0x8000 0x00 0x05 0x00 0xFD 0x24 [] [0xE0, 0x05]) []
      = some ⟨0x00, 0x05, 0x00, 0xFD, 0x27, 0x8002, 2, []⟩) := by
  decide

/-- spec/95_test_vectors.md V37. -/
theorem test_cpy_vectors :
    (ran (start 0x8000 0x00 0x00 0x20 0xFD 0x24 [] [0xC0, 0x10]) []
      = some ⟨0x00, 0x00, 0x20, 0xFD, 0x25, 0x8002, 2, []⟩) := by
  decide

/-- spec/95_test_vectors.md V38, V39, V117. -/
theorem test_inc_vectors :
    (ran (start 0x8000 0x00 0x00 0x00 0xFD 0x24 [(0x0010, 0xFF)] [0xE6, 0x10]) [0x0010]
      = some ⟨0x00, 0x00, 0x00, 0xFD, 0x26, 0x8002, 5, [0x00]⟩) ∧
    (ran (start 0x8000 0x00 0x00 0x00 0xFD 0x24 [(0x0010, 0x7F)] [0xE6, 0x10]) [0x0010]
      = some ⟨0x00, 0x00, 0x00, 0xFD, 0xA4, 0x8002, 5, [0x80]⟩) ∧
    (ran (start 0x8000 0x00 0x02 0x00 0xFD 0x24 [(0x0001, 0x09)] [0xFE, 0xFF, 0xFF]) [0x0001]
      = some ⟨0x00, 0x02, 0x00, 0xFD, 0x24, 0x8003, 7, [0x0A]⟩) := by
  decide

/-- spec/95_test_vectors.md V40, V41. -/
theorem test_dec_vectors :
    (ran (start 0x8000 0x00 0x00 0x00 0xFD 0x24 [(0x0010, 0x00)] [0xC6, 0x10]) [0x0010]
      = some ⟨0x00, 0x00, 0x00, 0xFD, 0xA4, 0x8002, 5, [0xFF]⟩) ∧
    (ran (start 0x8000 0x00 0x01 0x00 0xFD 0x24 [(0x0301, 0x01)] [0xDE, 0x00, 0x03]) [0x0301]
      = some ⟨0x00, 0x01, 0x00, 0xFD, 0x26, 0x8003, 7, [0x00]⟩) := by
  decide

/-- spec/95_test_vectors.md V42. -/
theorem test_inx_vectors :
    (ran (start 0x8000 0x00 0xFF 0x00 0xFD 0x25 [] [0xE8]) []
      = some ⟨0x00, 0x00, 0x00, 0xFD, 0x27, 0x8001, 2, []⟩) := by
  decide

/-- spec/95_test_vectors.md V43. -/
theorem test_iny_vectors :
    (ran (start 0x8000 0x00 0x00 0x7F 0xFD 0x24 [] [0xC8]) []
      = some ⟨0x00, 0x00, 0x80, 0xFD, 0xA4, 0x8001, 2, []⟩) := by
  decide

/-- spec/95_test_vectors.md V44. -/
theorem test_dex_vectors :
    (ran (start 0x8000 0x00 0x00 0x00 0xFD 0x24 [] [0xCA]) []
      = some ⟨0x00, 0xFF, 0x00, 0xFD, 0xA4, 0x8001, 2, []⟩) := by
  decide

/-- spec/95_test_vectors.md V45. -/
theorem test_dey_vectors :
    (ran (start 0x8000 0x00 0x00 0x01 0xFD 0x24 [] [0x88]) []
      = some ⟨0x00, 0x00, 0x00, 0xFD, 0x26, 0x8001, 2, []⟩) := by
  decide

/-- spec/95_test_vectors.md V50, V51. -/
theorem test_and_vectors :
    (ran (start 0x8000 0xF3 0x00 0x00 0xFD 0x24 [] [0x29, 0x0F]) []
      = some ⟨0x03, 0x00, 0x00, 0xFD, 0x24, 0x8002, 2, []⟩) ∧
    (ran (start 0x8000 0xFF 0x00 0x00 0xFD 0x24 [] [0x29, 0x00]) []
      = some ⟨0x00, 0x00, 0x00, 0xFD, 0x26, 0x8002, 2, []⟩) := by
  decide

/-- spec/95_test_vectors.md V52. -/
theorem test_ora_vectors :
    (ran (start 0x8000 0x01 0x00 0x00 0xFD 0x24 [] [0x09, 0x80]) []
      = some ⟨0x81, 0x00, 0x00, 0xFD, 0xA4, 0x8002, 2, []⟩) := by
  decide

/-- spec/95_test_vectors.md V53, V54. -/
theorem test_eor_vectors :
    (ran (start 0x8000 0x0F 0x00 0x00 0xFD 0x24 [] [0x49, 0xFF]) []
      = some ⟨0xF0, 0x00, 0x00, 0xFD, 0xA4, 0x8002, 2, []⟩) ∧
    (ran (start 0x8000 0x0F 0x00 0x00 0xFD 0x24 [] [0x49, 0x0F]) []
      = some ⟨0x00, 0x00, 0x00, 0xFD, 0x26, 0x8002, 2, []⟩) := by
  decide

/-- spec/95_test_vectors.md V55, V56. -/
theorem test_bit_vectors :
    (ran (start 0x8000 0x01 0x00 0x00 0xFD 0x24 [(0x0010, 0xC0)] [0x24, 0x10]) []
      = some ⟨0x01, 0x00, 0x00, 0xFD, 0xE6, 0x8002, 3, []⟩) ∧
    (ran (start 0x8000 0x01 0x00 0x00 0xFD 0xE4 [(0x0010, 0x3F)] [0x24, 0x10]) []
      = some ⟨0x01, 0x00, 0x00, 0xFD, 0x24, 0x8002, 3, []⟩) := by
  decide

/-- spec/95_test_vectors.md V57, V58, V118. -/
theorem test_asl_vectors :
    (ran (start 0x8000 0x80 0x00 0x00 0xFD 0x24 [] [0x0A]) []
      = some ⟨0x00, 0x00, 0x00, 0xFD, 0x27, 0x8001, 2, []⟩) ∧
    (ran (start 0x8000 0x00 0x00 0x00 0xFD 0x24 [(0x0010, 0x41)] [0x06, 0x10]) [0x0010]
      = some ⟨0x00, 0x00, 0x00, 0xFD, 0xA4, 0x8002, 5, [0x82]⟩) ∧
    (ran (start 0x8000 0x00 0x02 0x00 0xFD 0x24 [(0x0001, 0x81)] [0x16, 0xFF]) [0x0001]
      = some ⟨0x00, 0x02, 0x00, 0xFD, 0x25, 0x8002, 6, [0x02]⟩) := by
  decide

/-- spec/95_test_vectors.md V59, V60. -/
theorem test_lsr_vectors :
    (ran (start 0x8000 0x01 0x00 0x00 0xFD 0x24 [] [0x4A]) []
      = some ⟨0x00, 0x00, 0x00, 0xFD, 0x27, 0x8001, 2, []⟩) ∧
    (ran (start 0x8000 0xFF 0x00 0x00 0xFD 0x24 [] [0x4A]) []
      = some ⟨0x7F, 0x00, 0x00, 0xFD, 0x25, 0x8001, 2, []⟩) := by
  decide

/-- spec/95_test_vectors.md V61, V62. -/
theorem test_rol_vectors :
    (ran (start 0x8000 0x80 0x00 0x00 0xFD 0x24 [] [0x2A]) []
      = some ⟨0x00, 0x00, 0x00, 0xFD, 0x27, 0x8001, 2, []⟩) ∧
    (ran (start 0x8000 0x40 0x00 0x00 0xFD 0x25 [] [0x2A]) []
      = some ⟨0x81, 0x00, 0x00, 0xFD, 0xA4, 0x8001, 2, []⟩) := by
  decide

/-- spec/95_test_vectors.md V63, V64, V65. -/
theorem test_ror_vectors :
    (ran (start 0x8000 0x01 0x00 0x00 0xFD 0x25 [] [0x6A]) []
      = some ⟨0x80, 0x00, 0x00, 0xFD, 0xA5, 0x8001, 2, []⟩) ∧
    (ran (start 0x8000 0x01 0x00 0x00 0xFD 0x24 [] [0x6A]) []
      = some ⟨0x00, 0x00, 0x00, 0xFD, 0x27, 0x8001, 2, []⟩) ∧
    (ran (start 0x8000 0x00 0x05 0x00 0xFD 0x25 [(0x0205, 0x02)] [0x7E, 0x00, 0x02]) [0x0205]
      = some ⟨0x00, 0x05, 0x00, 0xFD, 0xA4, 0x8003, 7, [0x81]⟩) := by
  decide

/-- spec/95_test_vectors.md V75. -/
theorem test_bpl_vectors :
    (ran (start 0x8000 0x00 0x00 0x00 0xFD 0x24 [] [0x10, 0x00]) []
      = some ⟨0x00, 0x00, 0x00, 0xFD, 0x24, 0x8002, 3, []⟩) := by
  decide

/-- spec/95_test_vectors.md V76. -/
theorem test_bmi_vectors :
    (ran (start 0x80FE 0x00 0x00 0x00 0xFD 0xA4 [] [0x30, 0xF0]) []
      = some ⟨0x00, 0x00, 0x00, 0xFD, 0xA4, 0x80F0, 4, []⟩) := by
  decide

/-- spec/95_test_vectors.md V73. -/
theorem test_bvc_vectors :
    (ran (start 0x8000 0x00 0x00 0x00 0xFD 0x24 [] [0x50, 0x80]) []
      = some ⟨0x00, 0x00, 0x00, 0xFD, 0x24, 0x7F82, 4, []⟩) := by
  decide

/-- spec/95_test_vectors.md V78. -/
theorem test_bvs_vectors :
    (ran (start 0x8000 0x00 0x00 0x00 0xFD 0x64 [] [0x70, 0x04]) []
      = some ⟨0x00, 0x00, 0x00, 0xFD, 0x64, 0x8006, 3, []⟩) := by
  decide

/-- spec/95_test_vectors.md V77. -/
theorem test_bcc_vectors :
    (ran (start 0xFFFE 0x00 0x00 0x00 0xFD 0x24 [] [0x90, 0x05]) []
      = some ⟨0x00, 0x00, 0x00, 0xFD, 0x24, 0x0005, 3, []⟩) := by
  decide

/-- spec/95_test_vectors.md V72. -/
theorem test_bcs_vectors :
    (ran (start 0x80F0 0x00 0x00 0x00 0xFD 0x25 [] [0xB0, 0x10]) []
      = some ⟨0x00, 0x00, 0x00, 0xFD, 0x25, 0x8102, 4, []⟩) := by
  decide

/-- spec/95_test_vectors.md V70, V71. -/
theorem test_bne_vectors :
    (ran (start 0x8008 0x00 0x00 0x00 0xFD 0x24 [] [0xD0, 0xFA]) []
      = some ⟨0x00, 0x00, 0x00, 0xFD, 0x24, 0x8004, 3, []⟩) ∧
    (ran (start 0x8008 0x00 0x00 0x00 0xFD 0x26 [] [0xD0, 0xFA]) []
      = some ⟨0x00, 0x00, 0x00, 0xFD, 0x26, 0x800A, 2, []⟩) := by
  decide

/-- spec/95_test_vectors.md V74. -/
theorem test_beq_vectors :
    (ran (start 0x8000 0x00 0x00 0x00 0xFD 0x26 [] [0xF0, 0xFE]) []
      = some ⟨0x00, 0x00, 0x00, 0xFD, 0x26, 0x8000, 3, []⟩) := by
  decide

/-- spec/95_test_vectors.md V79, V80, V81. -/
theorem test_jmp_vectors :
    (ran (start 0x8000 0x00 0x00 0x00 0xFD 0x24 [] [0x4C, 0x34, 0x12]) []
      = some ⟨0x00, 0x00, 0x00, 0xFD, 0x24, 0x1234, 3, []⟩) ∧
    (ran (start 0x8000 0x00 0x00 0x00 0xFD 0x24 [(0x0200, 0x90), (0x02FF, 0x00), (0x0300, 0xA0)] [0x6C, 0xFF, 0x02]) []
      = some ⟨0x00, 0x00, 0x00, 0xFD, 0x24, 0x9000, 5, []⟩) ∧
    (ran (start 0x8000 0x00 0x00 0x00 0xFD 0x24 [(0x0300, 0x00), (0x0301, 0x90)] [0x6C, 0x00, 0x03]) []
      = some ⟨0x00, 0x00, 0x00, 0xFD, 0x24, 0x9000, 5, []⟩) := by
  decide

/-- spec/95_test_vectors.md V82. -/
theorem test_jsr_vectors :
    (ran (start 0x8002 0x00 0x00 0x00 0xFD 0x24 [] [0x20, 0x10, 0x80]) [0x01FC, 0x01FD]
      = some ⟨0x00, 0x00, 0x00, 0xFB, 0x24, 0x8010, 6, [0x04, 0x80]⟩) := by
  decide

/-- spec/95_test_vectors.md V83, V84. -/
theorem test_rts_vectors :
    (ran (start 0x8000 0x00 0x00 0x00 0xFB 0x24 [(0x01FC, 0x04), (0x01FD, 0x80)] [0x60]) []
      = some ⟨0x00, 0x00, 0x00, 0xFD, 0x24, 0x8005, 6, []⟩) ∧
    (ran (start 0x8000 0x00 0x00 0x00 0xFB 0x24 [(0x01FC, 0xFF), (0x01FD, 0xFF)] [0x60]) []
      = some ⟨0x00, 0x00, 0x00, 0xFD, 0x24, 0x0000, 6, []⟩) := by
  decide

/-- spec/95_test_vectors.md V85, V86. -/
theorem test_brk_vectors :
    (ran (start 0x8001 0x00 0x00 0x00 0xFD 0x25 [(0xFFFE, 0x00), (0xFFFF, 0x90)] [0x00]) [0x01FB, 0x01FC, 0x01FD]
      = some ⟨0x00, 0x00, 0x00, 0xFA, 0x25, 0x9000, 7, [0x35, 0x03, 0x80]⟩) ∧
    (ran (start 0x8000 0x00 0x00 0x00 0xFD 0x24 [(0xFFFE, 0x00), (0xFFFF, 0x90)] [0x00]) [0x01FB, 0x01FC, 0x01FD]
      = some ⟨0x00, 0x00, 0x00, 0xFA, 0x24, 0x9000, 7, [0x34, 0x02, 0x80]⟩) := by
  decide

/-- spec/95_test_vectors.md V87, V88. -/
theorem test_rti_vectors :
    (ran (start 0x8000 0x00 0x00 0x00 0xFA 0x24 [(0x01FB, 0x35), (0x01FC, 0x03), (0x01FD, 0x80)] [0x40]) []
      = some ⟨0x00, 0x00, 0x00, 0xFD, 0x35, 0x8003, 6, []⟩) ∧
    (ran (start 0x8000 0x00 0x00 0x00 0xFA 0x24 [(0x01FB, 0x00), (0x01FC, 0x00), (0x01FD, 0x90)] [0x40]) []
      = some ⟨0x00, 0x00, 0x00, 0xFD, 0x20, 0x9000, 6, []⟩) := by
  decide

/-- spec/95_test_vectors.md V90, V91. -/
theorem test_pha_vectors :
    (ran (start 0x8000 0x42 0x00 0x00 0xFD 0x24 [] [0x48]) [0x01FD]
      = some ⟨0x42, 0x00, 0x00, 0xFC, 0x24, 0x8001, 3, [0x42]⟩) ∧
    (ran (start 0x8000 0x42 0x00 0x00 0x00 0x24 [] [0x48]) [0x0100]
      = some ⟨0x42, 0x00, 0x00, 0xFF, 0x24, 0x8001, 3, [0x42]⟩) := by
  decide

/-- spec/95_test_vectors.md V92, V93. -/
theorem test_php_vectors :
    (ran (start 0x8000 0x00 0x00 0x00 0xFD 0x24 [] [0x08]) [0x01FD]
      = some ⟨0x00, 0x00, 0x00, 0xFC, 0x24, 0x8001, 3, [0x34]⟩) ∧
    (ran (start 0x8000 0x00 0x00 0x00 0xFD 0xC3 [] [0x08]) [0x01FD]
      = some ⟨0x00, 0x00, 0x00, 0xFC, 0xC3, 0x8001, 3, [0xF3]⟩) := by
  decide

/-- spec/95_test_vectors.md V94, V95. -/
theorem test_pla_vectors :
    (ran (start 0x8000 0x00 0x00 0x00 0xFC 0x24 [(0x01FD, 0x80)] [0x68]) []
      = some ⟨0x80, 0x00, 0x00, 0xFD, 0xA4, 0x8001, 4, []⟩) ∧
    (ran (start 0x8000 0x00 0x00 0x00 0xFF 0x24 [(0x0100, 0x00)] [0x68]) []
      = some ⟨0x00, 0x00, 0x00, 0x00, 0x26, 0x8001, 4, []⟩) := by
  decide

/-- spec/95_test_vectors.md V96, V97. -/
theorem test_plp_vectors :
    (ran (start 0x8000 0x00 0x00 0x00 0xFC 0x24 [(0x01FD, 0x00)] [0x28]) []
      = some ⟨0x00, 0x00, 0x00, 0xFD, 0x20, 0x8001, 4, []⟩) ∧
    (ran (start 0x8000 0x00 0x00 0x00 0xFC 0x24 [(0x01FD, 0xFF)] [0x28]) []
      = some ⟨0x00, 0x00, 0x00, 0xFD, 0xFF, 0x8001, 4, []⟩) := by
  decide

/-- spec/95_test_vectors.md V98. -/
theorem test_clc_vectors :
    (ran (start 0x8000 0x00 0x00 0x00 0xFD 0x25 [] [0x18]) []
      = some ⟨0x00, 0x00, 0x00, 0xFD, 0x24, 0x8001, 2, []⟩) := by
  decide

/-- spec/95_test_vectors.md V99. -/
theorem test_sec_vectors :
    (ran (start 0x8000 0x00 0x00 0x00 0xFD 0x24 [] [0x38]) []
      = some ⟨0x00, 0x00, 0x00, 0xFD, 0x25, 0x8001, 2, []⟩) := by
  decide

/-- spec/95_test_vectors.md V100. -/
theorem test_cli_vectors :
    (ran (start 0x8000 0x00 0x00 0x00 0xFD 0x24 [] [0x58]) []
      = some ⟨0x00, 0x00, 0x00, 0xFD, 0x20, 0x8001, 2, []⟩) := by
  decide

/-- spec/95_test_vectors.md V101. -/
theorem test_sei_vectors :
    (ran (start 0x8000 0x00 0x00 0x00 0xFD 0x20 [] [0x78]) []
      = some ⟨0x00, 0x00, 0x00, 0xFD, 0x24, 0x8001, 2, []⟩) := by
  decide

/-- spec/95_test_vectors.md V102. -/
theorem test_cld_vectors :
    (ran (start 0x8000 0x00 0x00 0x00 0xFD 0x2C [] [0xD8]) []
      = some ⟨0x00, 0x00, 0x00, 0xFD, 0x24, 0x8001, 2, []⟩) := by
  decide

/-- spec/95_test_vectors.md V103. -/
theorem test_sed_vectors :
    (ran (start 0x8000 0x00 0x00 0x00 0xFD 0x24 [] [0xF8]) []
      = some ⟨0x00, 0x00, 0x00, 0xFD, 0x2C, 0x8001, 2, []⟩) := by
  decide

/-- spec/95_test_vectors.md V104. -/
theorem test_clv_vectors :
    (ran (start 0x8000 0x00 0x00 0x00 0xFD 0x64 [] [0xB8]) []
      = some ⟨0x00, 0x00, 0x00, 0xFD, 0x24, 0x8001, 2, []⟩) := by
  decide

/-- spec/95_test_vectors.md V105. -/
theorem test_nop_vectors :
    (ran (start 0x8000 0x00 0x00 0x00 0xFD 0x24 [] [0xEA]) []
      = some ⟨0x00, 0x00, 0x00, 0xFD, 0x24, 0x8001, 2, []⟩) := by
  decide

/-! Faults, interrupts, halt, reset and the host's calls. -/

/-- V130, V131, V132, L1-8: an undefined opcode faults, records its context and changes nothing else. -/
theorem test_undefined_opcode_faults :
    after (start 0x8000 0x11 0 0 0xFD 0x24 [] [0x02])
      = some { start 0x8000 0x11 0 0 0xFD 0x24 [] [0x02] with
                engine := .faulted, fault := some ⟨0x02, 0x8000, 0⟩ } ∧
    (after (start 0x8000 0 0 0 0xFD 0x24 [] [0xFF])).map (fun t => (t.pc, t.fault))
      = some (0x8000, some ⟨0xFF, 0x8000, 0⟩) ∧
    (after (start 0x8000 0 0 0 0xFD 0x24 [] [0x80, 0x00])).map (fun t => (t.pc, t.fault))
      = some (0x8000, some ⟨0x80, 0x8000, 0⟩) := by
  decide

/-- U9: a faulted or a halted engine takes no step. -/
theorem test_step_not_enabled :
    step { State.reset with engine := .halted } matches .fault .stepWhileHalted ∧
    step { State.reset with engine := .faulted, fault := some ⟨0x02, 0x8000, 7⟩ }
      matches .fault (.stepWhileFaulted (some ⟨0x02, 0x8000, 7⟩)) := by
  decide

/-- The vectors' common setup: IRQ/BRK vector $9000, NMI vector $A000, `PC` = $8001, `SP` = $FD. -/
def atBoundary (p : Byte) (bytes : List Byte) : State :=
  start 0x8001 0 0 0 0xFD p [(0xFFFF, 0x90), (0xFFFB, 0xA0)] bytes

/-- V140, V144: an IRQ is served with P.I clear; bit 4 of the pushed status is clear, the stored one kept. -/
theorem test_irq_served :
    ran ((atBoundary 0x20 [0xE8]).setIrqLine true) [0x01FB, 0x01FC, 0x01FD]
      = some ⟨0, 0, 0, 0xFA, 0x24, 0x9000, 7, [0x20, 0x01, 0x80]⟩ ∧
    ran ((atBoundary 0x30 [0xE8]).setIrqLine true) [0x01FB]
      = some ⟨0, 0, 0, 0xFA, 0x34, 0x9000, 7, [0x20]⟩ := by
  decide

/-- V141: with P.I set the IRQ is masked, and INX runs. -/
theorem test_irq_masked :
    ran ((atBoundary 0x24 [0xE8]).setIrqLine true) [] = some ⟨0, 0x01, 0, 0xFD, 0x24, 0x8002, 2, []⟩ := by
  decide

/-- V142, V145: an NMI is served whatever P.I is, before the fetch could fault, and its latch is cleared. -/
theorem test_nmi_served :
    ran ((atBoundary 0x24 [0x02]).setNmiPending true) [0x01FB, 0x01FC, 0x01FD]
      = some ⟨0, 0, 0, 0xFA, 0x24, 0xA000, 7, [0x24, 0x01, 0x80]⟩ ∧
    (after ((atBoundary 0x24 [0x02]).setNmiPending true)).map (fun t => (t.engine, t.nmiPending))
      = some (.ready, false) := by
  decide

/-- V143: NMI first; the IRQ is then masked by the I it set. -/
theorem test_nmi_before_irq :
    (after (((atBoundary 0x20 [0xE8]).setNmiPending true).setIrqLine true)).map (fun t => (t.pc, t.p, t.irqLine))
      = some (0xA000, 0x24, true) := by
  decide

/-- V146: the halt request comes first, and the NMI stays pending. -/
theorem test_halt_first :
    (after (((atBoundary 0x24 [0xE8]).setNmiPending true).setHaltRequest true)).map
        (fun t => (t.engine, t.haltRequest, t.nmiPending, t.pc, t.cycles))
      = some (.halted, false, true, 0x8001, 0) := by
  decide

/-- L1-3, V150, V152, V153: reset loads `PC` from $FFFC and leaves `cycles`, memory and `irqLine`. -/
theorem test_host_reset :
    (({ start 0x1234 0x11 1 2 3 0xFF [(0xFFFD, 0x80)] [] with
          engine := .faulted, fault := some ⟨0x02, 0x1234, 40⟩, cycles := 40, nmiPending := true, irqLine := true,
          haltRequest := true } : State).doReset)
      = { start 0x8000 0 0 0 0xFD 0x24 [(0xFFFD, 0x80)] [] with cycles := 40, irqLine := true } := by
  decide

/-- R46, R300, R303: State.reset is a constructed instance with nothing loaded, after reset. -/
theorem test_reset_is_construct_then_reset :
    (State.construct 1 2 3 4 5 0x6789 []).doReset = State.reset := by
  decide

/-- R83: a load wraps past $FFFF. -/
theorem test_load_wraps :
    (State.reset.storeBytes 0xFFFF [0x11, 0x22]).mem = [(0x0000, 0x22), (0xFFFF, 0x11)] := by
  decide

/-- L1-1: one bit at a time. -/
theorem test_set_flag :
    setBit 0x24 0 true = 0x25 ∧ setBit 0x25 2 false = 0x21 ∧ setBit 0x21 5 false = 0x01 := by decide

/-- V160, V161, V163: both views. -/
theorem test_status_views :
    statusChars .compact 0x24 = ['0', '0', '1', '0', '0', '1', '0', '0'] ∧
    statusChars .full 0x24 = ['0', '0', '_', '0', '0', 'I', '0', '0'] ∧
    statusChars .full 0xFF = ['N', 'V', '_', 'B', 'D', 'I', 'Z', 'C'] ∧
    statusChars .full 0xDB = ['N', 'V', '_', 'B', 'D', '0', 'Z', 'C'] := by decide

/-- R39, R40: the calls of the host, on $24. -/
theorem test_show_status :
    State.reset.showStatus .compact = "00100100" ∧ State.reset.showStatus .full = "00_00I00" := by decide

/-- V166: `setZN($00)`, then `setZN($80)`. -/
theorem test_set_zn : setZN 0x00 0x24 = 0x26 ∧ setZN 0x80 0x26 = 0xA4 := by decide

/-- The canonical form refuses a falling order, a repeated address, an unlisted value and an address past $FFFF. -/
theorem test_memory_form_refused :
    Memory.wf [(2, 0x01), (1, 0x01)] = false ∧ Memory.wf [(1, 0x01), (1, 0x02)] = false ∧
    Memory.wf [(1, 0x00)] = false ∧ Memory.wf [(65536, 0x01)] = false ∧ Memory.wf [(1, 0x01), (2, 0x02)] = true := by
  decide

/-- R7, R222, U7: with `BrkReturnOffset` = 1 the pushed return address is $8002 (the variant of the BRK program in
spec/95_test_vectors.md); with the default, $8003. -/
theorem test_brk_return_offset :
    (nextOf (stepWith { standardParameters with brkReturnOffset := 1 } (atBoundary 0x25 [0x00]))).map
      (fun t => (t.read8 0x01FD, t.read8 0x01FC, t.pc)) = some (0x80, 0x02, 0x9000) ∧
    (nextOf (stepWith standardParameters (atBoundary 0x25 [0x00]))).map
      (fun t => (t.read8 0x01FD, t.read8 0x01FC, t.pc)) = some (0x80, 0x03, 0x9000) := by
  decide

/-- R7, R97, U2: with $E8 (INX) left out of `DefinedOpcodes` it faults, and NOP still runs; a byte with no record faults
though the set holds it. -/
theorem test_defined_opcodes :
    let k := { standardParameters with definedOpcodes := fun op => op != 0xE8 }
    (nextOf (stepWith k (atBoundary 0x24 [0xE8]))).map (fun t => (t.engine, t.fault, t.x))
      = some (.faulted, some ⟨0xE8, 0x8001, 0⟩, 0x00) ∧
    (nextOf (stepWith k (atBoundary 0x24 [0xEA]))).map (fun t => (t.engine, t.pc)) = some (.ready, 0x8002) ∧
    (nextOf (stepWith k (atBoundary 0x24 [0x02]))).map (fun t => t.engine) = some .faulted := by
  decide

/-- R84, U11: before the load a step is refused; after it, a second load is; and then the step runs. -/
theorem test_session_order :
    sessionCall standardParameters .step (beginSession State.reset) matches .refused .stepBeforeLoad ∧
    sessionCall standardParameters (.host (.load [0xEA] 0x0000)) (beginSession State.reset)
      matches .next ⟨_, true⟩ ∧
    sessionCall standardParameters (.host (.load [0xEA] 0x0000)) ⟨State.reset, true⟩ matches .refused .loadRepeated ∧
    sessionCall standardParameters .step ⟨State.reset.storeBytes 0x0000 [0xEA], true⟩ matches .next ⟨_, true⟩ := by
  decide

/-- R44, R45, R264: signalNMI, setIRQ and the halt request, on a state in which each changes something. -/
theorem test_host_inputs :
    (nextOf (hostCall .signalNmi State.reset)).map (·.nmiPending) = some true ∧
    (nextOf (hostCall (.setIrq true) State.reset)).map (·.irqLine) = some true ∧
    (nextOf (hostCall .requestHalt State.reset)).map (·.haltRequest) = some true := by
  decide

/-- From reset, the very next step runs the instruction that withFetchWord places. -/
theorem test_with_fetch_word :
    after (State.reset.withFetchWord 8 0xEA) = some { State.reset.withFetchWord 8 0xEA with pc := 0x0001, cycles := 2 } ∧
    (after (State.reset.withFetchWord 16 0x80A9)).map (fun t => (t.a, t.p, t.pc)) = some (0x80, 0xA4, 0x0002) := by
  decide


/-! Witnesses: for each statement of Certificates/Slice0/Obligations.lean that has hypotheses, states and operands that meet
all of them together; where it has clauses, one for each, at the boundaries of its range. -/

open Sys2Proof.Claims

/-- A ready state whose `PC` holds the bytes. -/
def fetching (p : Byte) (bytes : List Byte) : State := start 0x8000 0x01 0x02 0x03 0xFD p [] bytes

theorem witness_EncodeOfDecode :
    decode [0xA9, 0x80, 0xEA] = .ok (.ldaImm 0x80, [0xEA]) ∧ decode [0x00] = .ok (.brk, []) ∧
    decode [0x6C, 0xFF, 0x30] = .ok (.jmpInd 0x30FF, []) := by decide

theorem witness_ExactlyTheListedOpcodesAreUndefined :
    0x02 ∈ undefinedOpcodes ∧ 0xFF ∈ undefinedOpcodes ∧ 0x00 ∉ undefinedOpcodes ∧ 0xFE ∉ undefinedOpcodes := by decide

/-- With no input high, and with the IRQ line high but masked. -/
theorem witness_StepRunsDecodedInstruction :
    Fetches (fetching 0x20 [0xA9, 0x80]) ∧ Fetches ((fetching 0x24 [0xA9, 0x80]).setIrqLine true) ∧
    decode ([0x8000, 0x8001, 0x8002].map (fetching 0x20 [0xA9, 0x80]).read8) = .ok (.ldaImm 0x80, [0x00]) := by
  unfold Fetches
  decide

theorem witness_StepFaultsOnUndefinedOpcode :
    (Fetches (fetching 0x24 [0x02]) ∧ (fetching 0x24 [0x02]).read8 0x8000 ∈ undefinedOpcodes) ∧
    (Fetches (fetching 0x24 [0xFF]) ∧ (fetching 0x24 [0xFF]).read8 0x8000 ∈ undefinedOpcodes) := by
  unfold Fetches
  decide

theorem witness_StepEnabledOnlyWhenReady :
    (State.reset.setEngine .halted).engine = .halted ∧ (State.reset.enterFaulted 0x02).engine = .faulted ∧
    State.reset.engine = .ready := by decide

/-- The step that takes the halt, the step that faults, and a step that runs an instruction. -/
theorem witness_StepReturnsItsCycles :
    (after ((fetching 0x24 [0xEA]).setHaltRequest true)).map (stepReturn (fetching 0x24 [0xEA])) = some .halted ∧
    (after (fetching 0x24 [0x02])).map (stepReturn (fetching 0x24 [0x02])) = some .faulted ∧
    (after (fetching 0x24 [0xEA])).map (stepReturn (fetching 0x24 [0xEA])) = some (.cycles 2) ∧
    (after (fetching 0x24 [0x00])).map (stepReturn (fetching 0x24 [0x00])) = some (.cycles 7) := by
  decide

/-- The halt request, alone and with an NMI and an IRQ pending. -/
theorem witness_StepMeetsHaltRequestFirst :
    ((fetching 0x24 [0xEA]).setHaltRequest true).engine = .ready ∧
    ((((fetching 0x20 [0xEA]).setHaltRequest true).setNmiPending true).setIrqLine true).haltRequest = true := by decide

/-- An NMI, with the IRQ line high, `P.I` clear and `SP` about to wrap. -/
theorem witness_StepServicesNmi :
    let s := (((fetching 0x20 [0xEA]).setSP 0x01).setNmiPending true).setIrqLine true
    s.engine = .ready ∧ s.haltRequest = false ∧ s.nmiPending = true := by decide

theorem witness_StepServicesIrq :
    let s := ((fetching 0x20 [0xEA]).setSP 0x00).setIrqLine true
    s.engine = .ready ∧ s.haltRequest = false ∧ s.nmiPending = false ∧ s.irqLine = true ∧ (flagsOf s.p).i = false := by
  decide

theorem witness_MaskedIrqHasNoEffect : (flagsOf (fetching 0x24 [0xEA]).p).i = true := by decide

/-- A read that crosses a page, one that does not, and a taken branch that crosses. -/
theorem witness_CyclesFollowTheTable :
    (∃ t, exec (.ldaAbsX 0x12FF) (fetching 0x24 []) = .next t ∧ t.cycles = 5) ∧
    (∃ t, exec (.ldaAbsX 0x1200) (fetching 0x24 []) = .next t ∧ t.cycles = 4) ∧
    (∃ t, exec (.bne 0x80) (fetching 0x24 []) = .next t ∧ t.cycles = 4) :=
  ⟨⟨_, rfl, by decide⟩, ⟨_, rfl, by decide⟩, ⟨_, rfl, by decide⟩⟩

theorem witness_StepKeepsInvariant :
    (fetching 0x24 [0x8D, 0x34, 0x12]).inv = true ∧ (after (fetching 0x24 [0x8D, 0x34, 0x12])).isSome = true ∧
    (fetching 0x24 [0x02]).inv = true ∧ (after (fetching 0x24 [0x02])).isSome = true := by decide

theorem witness_HostCallKeepsInvariant :
    State.reset.inv = true ∧ (∃ t, hostCall (.load [0x01, 0x00] 0xFFFF) State.reset = .next t) ∧
    (∃ t, hostCall (.setFlag 7 true) State.reset = .next t) ∧
    (beginSession State.reset).loaded = false ∧ ({ beginSession State.reset with loaded := true }).loaded = true :=
  ⟨by decide, ⟨_, rfl⟩, ⟨_, rfl⟩, rfl, rfl⟩

/-- A pull that forces the bit, and a step that does not touch it. -/
theorem witness_StepKeepsUnusedBitSet :
    (flagsOf (fetching 0x20 [0x28]).p).u = true ∧ (after (fetching 0x20 [0x28])).isSome = true ∧
    (flagsOf (fetching 0x24 [0xEA]).p).u = true ∧ (after (fetching 0x24 [0xEA])).isSome = true := by decide

/-- A change of each register. -/
theorem witness_RegistersChangeOnlyByTheirWriters :
    (∃ t, exec (.ldaImm 0x80) State.reset = .next t ∧ t.a ≠ State.reset.a) ∧
    (∃ t, exec .aslAcc (fetching 0x24 []) = .next t ∧ t.a ≠ (fetching 0x24 []).a) ∧
    (∃ t, exec .dex State.reset = .next t ∧ t.x ≠ State.reset.x) ∧
    (∃ t, exec .iny State.reset = .next t ∧ t.y ≠ State.reset.y) ∧
    (∃ t, exec .brk State.reset = .next t ∧ t.sp ≠ State.reset.sp) :=
  ⟨⟨_, rfl, by decide⟩, ⟨_, rfl, by decide⟩, ⟨_, rfl, by decide⟩, ⟨_, rfl, by decide⟩, ⟨_, rfl, by decide⟩⟩

/-- A change of each flag. -/
theorem witness_FlagsChangeOnlyByTheirWriters :
    (∃ t, exec .sec State.reset = .next t ∧ (flagsOf t.p).c ≠ (flagsOf State.reset.p).c) ∧
    (∃ t, exec (.ldaImm 0) State.reset = .next t ∧ (flagsOf t.p).z ≠ (flagsOf State.reset.p).z) ∧
    (∃ t, exec .cli State.reset = .next t ∧ (flagsOf t.p).i ≠ (flagsOf State.reset.p).i) ∧
    (∃ t, exec .sed State.reset = .next t ∧ (flagsOf t.p).d ≠ (flagsOf State.reset.p).d) ∧
    (∃ t, exec .plp (start 0 0 0 0 0 0x24 [(0x0101, 0xFF)] []) = .next t ∧ (flagsOf t.p).b ≠ (flagsOf 0x24).b) ∧
    (∃ t, exec .plp (State.reset.setP 0x00) = .next t ∧ (flagsOf t.p).u ≠ (flagsOf 0x00).u) ∧
    (∃ t, exec (.adcImm 0x50) (State.reset.setA 0x50) = .next t ∧ (flagsOf t.p).v ≠ (flagsOf State.reset.p).v) ∧
    (∃ t, exec (.ldaImm 0x80) State.reset = .next t ∧ (flagsOf t.p).n ≠ (flagsOf State.reset.p).n) :=
  ⟨⟨_, rfl, by decide⟩, ⟨_, rfl, by decide⟩, ⟨_, rfl, by decide⟩, ⟨_, rfl, by decide⟩, ⟨_, rfl, by decide⟩,
    ⟨_, rfl, by decide⟩, ⟨_, rfl, by decide⟩, ⟨_, rfl, by decide⟩⟩

theorem witness_MemoryChangesOnlyByItsWriters :
    (∃ t, exec (.staAbs 0xFFFF) (fetching 0x24 []) = .next t ∧ t.read8 0xFFFF ≠ (fetching 0x24 []).read8 0xFFFF) ∧
    (∃ t, exec .php State.reset = .next t ∧ t.read8 0x01FD ≠ State.reset.read8 0x01FD) :=
  ⟨⟨_, rfl, by decide⟩, ⟨_, rfl, by decide⟩⟩

/-- Each list of forms holds the forms the rules count. -/
theorem witness_forms (b : Byte) (w : Word) :
    (ldaForms b w).length = 8 ∧ (ldxForms b w).length = 5 ∧ (ldyForms b w).length = 5 ∧ (staForms b w).length = 7 ∧
    (stxForms b w).length = 3 ∧ (styForms b w).length = 3 ∧ (adcForms b w).length = 8 ∧ (sbcForms b w).length = 8 ∧
    (cmpForms b w).length = 8 ∧ (cpxForms b w).length = 3 ∧ (cpyForms b w).length = 3 ∧ (incForms b w).length = 4 ∧
    (decForms b w).length = 4 ∧ (andForms b w).length = 8 ∧ (oraForms b w).length = 8 ∧ (eorForms b w).length = 8 ∧
    (bitForms b w).length = 2 ∧ (aslForms b w).length = 5 ∧ (lsrForms b w).length = 5 ∧ (rolForms b w).length = 5 ∧
    (rorForms b w).length = 5 ∧ flagForms.length = 7 ∧ branchForms.length = 8 :=
  ⟨rfl, rfl, rfl, rfl, rfl, rfl, rfl, rfl, rfl, rfl, rfl, rfl, rfl, rfl, rfl, rfl, rfl, rfl, rfl, rfl, rfl, rfl, rfl⟩

/-- Each branch is taken with some flags and not with others; taken, it can stay in the page and can leave it. -/
theorem witness_BranchesTestTheirFlag :
    (∀ f ∈ branchForms, f.cond (flagsOf 0x00) ≠ f.cond (flagsOf 0xFF)) ∧
    (∃ t, exec (.bne 0x7F) (fetching 0x24 []) = .next t ∧ t.pc = 0x8081 ∧ t.cycles = 3) ∧
    (∃ t, exec (.bne 0x80) (fetching 0x24 []) = .next t ∧ t.pc = 0x7F82 ∧ t.cycles = 4) ∧
    (∃ t, exec (.beq 0x80) (fetching 0x24 []) = .next t ∧ t.pc = 0x8002 ∧ t.cycles = 2) :=
  ⟨by decide, ⟨_, rfl, by decide⟩, ⟨_, rfl, by decide⟩, ⟨_, rfl, by decide⟩⟩

/-- The pushed bytes lie at these addresses when `SP` wraps, and another address is none of them. -/
theorem witness_JsrPushesReturnAddress :
    (0x0100 : Word) = stackAddr 0x00 ∧ (0x01FF : Word) = stackAddr (0x00 - 1) ∧
    (0x0200 : Word) ≠ stackAddr 0x00 ∧ (0x0200 : Word) ≠ stackAddr (0x00 - 1) := by decide

theorem witness_RtsUndoesJsr :
    (∃ t u, exec (.jsr 0x9000) (fetching 0x24 []) = .next t ∧ exec .rts t = .next u ∧ u.pc = 0x8003) ∧
    (∃ t u, exec (.jsr 0x9000) ((fetching 0x24 []).setSP 0x00) = .next t ∧ exec .rts t = .next u ∧ u.sp = 0x00) :=
  ⟨⟨_, _, rfl, rfl, by decide⟩, ⟨_, _, rfl, rfl, by decide⟩⟩

theorem witness_RtiUndoesTheInterrupt :
    (∃ u, exec .rti ((fetching 0x24 []).takeInterrupt .brk) = .next u ∧ u.p = 0x34) ∧
    (∃ u, exec .rti (((fetching 0x30 []).setSP 0x01).takeInterrupt .irq) = .next u ∧ u.p = 0x20) ∧
    (∃ u, exec .rti ((fetching 0x00 []).takeInterrupt .nmi) = .next u ∧ u.p = 0x20) :=
  ⟨⟨_, rfl, by decide⟩, ⟨_, rfl, by decide⟩, ⟨_, rfl, by decide⟩⟩

theorem witness_PlaUndoesPha :
    ∃ t u, exec .pha ((fetching 0x24 []).setSP 0x00) = .next t ∧
      exec .pla { t with a := 0x77, p := 0xFF } = .next u ∧ u.a = 0x01 ∧ u.sp = 0x00 :=
  ⟨_, _, rfl, rfl, by decide⟩

/-- An image that wraps past $FFFF: its last byte has no later one at its address, and $0001 is outside it. -/
theorem witness_HostLoadStoresTheImage :
    (1 < [(0x11 : Byte), 0x22].length ∧
      ∀ j < 2, 1 < j → ((0xFFFF : Word).toNat + j) % 65536 ≠ ((0xFFFF : Word).toNat + 1) % 65536) ∧
    ∀ i < 2, ((0xFFFF : Word).toNat + i) % 65536 ≠ (0x0001 : Word).toNat := by decide

/-- Bit 7 is the last inside, bit 8 the first outside. -/
theorem witness_HostSetFlagWritesOneBit :
    (∃ t, hostCall (.setFlag 7 true) State.reset = .next t ∧ t.p = 0xA4) ∧
    hostCall (.setFlag 8 true) State.reset matches .refused (.flagBitOutOfRange 8) :=
  ⟨⟨_, rfl, by decide⟩, by decide⟩
end Sys2Proof.Tests
end

section
/-! The forms of the instructions. Every instruction is one of the shapes of Machine/Operands.lean with a handler of its
mnemonic, or a branch, a jump, JSR or BRK: `exec_form` says it once, so a fact about all 151 instructions is a fact about
the shapes and the handlers. -/

namespace Sys2Proof.Machine

/-- The handlers of the instructions that read an operand, by mnemonic. -/
inductive ReadHandler : String → (Byte → State → State) → Prop
  | lda : ReadHandler "LDA" handleLda
  | ldx : ReadHandler "LDX" handleLdx
  | ldy : ReadHandler "LDY" handleLdy
  | adc : ReadHandler "ADC" handleAdc
  | sbc : ReadHandler "SBC" handleSbc
  | cmp : ReadHandler "CMP" handleCmp
  | cpx : ReadHandler "CPX" handleCpx
  | cpy : ReadHandler "CPY" handleCpy
  | and : ReadHandler "AND" handleAnd
  | ora : ReadHandler "ORA" handleOra
  | eor : ReadHandler "EOR" handleEor
  | bit : ReadHandler "BIT" handleBit

/-- The registers that the stores store, by mnemonic. -/
inductive StoreSource : String → (State → Byte) → Prop
  | sta : StoreSource "STA" State.a
  | stx : StoreSource "STX" State.x
  | sty : StoreSource "STY" State.y

/-- The functions of the read-modify-write instructions, by mnemonic. -/
inductive Alu : String → (Byte → Byte → Byte × Byte) → Prop
  | inc : Alu "INC" aluInc
  | dec : Alu "DEC" aluDec
  | asl : Alu "ASL" aluAsl
  | lsr : Alu "LSR" aluLsr
  | rol : Alu "ROL" aluRol
  | ror : Alu "ROR" aluRor

/-- The handlers of the instructions with no operand, by mnemonic. -/
inductive ImpliedHandler : String → (State → State) → Prop
  | tax : ImpliedHandler "TAX" handleTax
  | tay : ImpliedHandler "TAY" handleTay
  | txa : ImpliedHandler "TXA" handleTxa
  | tya : ImpliedHandler "TYA" handleTya
  | tsx : ImpliedHandler "TSX" handleTsx
  | txs : ImpliedHandler "TXS" handleTxs
  | inx : ImpliedHandler "INX" handleInx
  | iny : ImpliedHandler "INY" handleIny
  | dex : ImpliedHandler "DEX" handleDex
  | dey : ImpliedHandler "DEY" handleDey
  | rts : ImpliedHandler "RTS" handleRts
  | rti : ImpliedHandler "RTI" State.returnFromInterrupt
  | pha : ImpliedHandler "PHA" handlePha
  | php : ImpliedHandler "PHP" handlePhp
  | pla : ImpliedHandler "PLA" handlePla
  | plp : ImpliedHandler "PLP" handlePlp
  | clc : ImpliedHandler "CLC" handleClc
  | sec : ImpliedHandler "SEC" handleSec
  | cli : ImpliedHandler "CLI" handleCli
  | sei : ImpliedHandler "SEI" handleSei
  | cld : ImpliedHandler "CLD" handleCld
  | sed : ImpliedHandler "SED" handleSed
  | clv : ImpliedHandler "CLV" handleClv
  | nop : ImpliedHandler "NOP" handleNop

/-- The read-modify-write instructions in Accumulator mode. -/
def accumulatorForms : List Instr := [.aslAcc, .lsrAcc, .rolAcc, .rorAcc]

/-- What `exec` is for an instruction `i` whose record is `r` (R95, R121). -/
inductive ExecForm (i : Instr) (r : Record) : Prop
  | reading {handler : Byte → State → State} {o : Operand} (h : ReadHandler r.mnemonic handler)
      (run : ∀ s, exec i s = reading o r.baseCycles r.pageCrossExtra handler s)
  | storing {source : State → Byte} {m : AddrMode} (h : StoreSource r.mnemonic source)
      (run : ∀ s, exec i s = storing m r.baseCycles r.pageCrossExtra (source s) s)
  | modifying {alu : Byte → Byte → Byte × Byte} {l : Location} (h : Alu r.mnemonic alu)
      (acc : l = .accumulator ↔ i ∈ accumulatorForms)
      (run : ∀ s, exec i s = modifying l r.baseCycles r.pageCrossExtra alu s)
  | implied {handler : State → State} (h : ImpliedHandler r.mnemonic handler)
      (run : ∀ s, exec i s = implied r.baseCycles handler s)
  | branching {f : Flag} {want : Bool} {d : Byte} (rel : r.mode = .relative)
      (run : ∀ s, exec i s = branching f want d r.baseCycles s)
  | jmpAbs {w : Word} (name : r.mnemonic = "JMP")
      (run : ∀ s, exec i s = .next ((s.setPC w).addCycles r.baseCycles))
  | jmpInd {w : Word} (name : r.mnemonic = "JMP")
      (run : ∀ s, exec i s = .next ((s.setPC (s.readPtrBug w)).addCycles r.baseCycles))
  | jsr {w : Word} (name : r.mnemonic = "JSR")
      (run : ∀ s, exec i s =
        .next ((((s.advance 3).pushWord ((s.advance 3).pc - 1)).setPC w).addCycles r.baseCycles))
  | brk (name : r.mnemonic = "BRK")
      (run : ∀ s, exec i s =
        .next (((s.setPC (s.pc + brkReturnOffset)).takeInterrupt .brk).addCycles r.baseCycles))

/-- Every instruction has a record, and one of the forms. -/
theorem exec_form (i : Instr) : ∃ r, i.record = some r ∧ ExecForm i r := by
  cases i with
  | ldaIndX | ldaZp | ldaImm | ldaAbs | ldaIndY | ldaZpX | ldaAbsY | ldaAbsX =>
    exact ⟨_, rfl, .reading .lda fun _ => rfl⟩
  | ldxImm | ldxZp | ldxAbs | ldxZpY | ldxAbsY => exact ⟨_, rfl, .reading .ldx fun _ => rfl⟩
  | ldyImm | ldyZp | ldyAbs | ldyZpX | ldyAbsX => exact ⟨_, rfl, .reading .ldy fun _ => rfl⟩
  | staIndX | staZp | staAbs | staIndY | staZpX | staAbsY | staAbsX =>
    exact ⟨_, rfl, .storing .sta fun _ => rfl⟩
  | stxZp | stxAbs | stxZpY => exact ⟨_, rfl, .storing .stx fun _ => rfl⟩
  | styZp | styAbs | styZpX => exact ⟨_, rfl, .storing .sty fun _ => rfl⟩
  | tax => exact ⟨_, rfl, .implied .tax fun _ => rfl⟩
  | tay => exact ⟨_, rfl, .implied .tay fun _ => rfl⟩
  | txa => exact ⟨_, rfl, .implied .txa fun _ => rfl⟩
  | tya => exact ⟨_, rfl, .implied .tya fun _ => rfl⟩
  | tsx => exact ⟨_, rfl, .implied .tsx fun _ => rfl⟩
  | txs => exact ⟨_, rfl, .implied .txs fun _ => rfl⟩
  | adcIndX | adcZp | adcImm | adcAbs | adcIndY | adcZpX | adcAbsY | adcAbsX =>
    exact ⟨_, rfl, .reading .adc fun _ => rfl⟩
  | sbcIndX | sbcZp | sbcImm | sbcAbs | sbcIndY | sbcZpX | sbcAbsY | sbcAbsX =>
    exact ⟨_, rfl, .reading .sbc fun _ => rfl⟩
  | cmpIndX | cmpZp | cmpImm | cmpAbs | cmpIndY | cmpZpX | cmpAbsY | cmpAbsX =>
    exact ⟨_, rfl, .reading .cmp fun _ => rfl⟩
  | cpxImm | cpxZp | cpxAbs => exact ⟨_, rfl, .reading .cpx fun _ => rfl⟩
  | cpyImm | cpyZp | cpyAbs => exact ⟨_, rfl, .reading .cpy fun _ => rfl⟩
  | incZp | incAbs | incZpX | incAbsX =>
    exact ⟨_, rfl, .modifying .inc (by simp [accumulatorForms]) fun _ => rfl⟩
  | decZp | decAbs | decZpX | decAbsX =>
    exact ⟨_, rfl, .modifying .dec (by simp [accumulatorForms]) fun _ => rfl⟩
  | inx => exact ⟨_, rfl, .implied .inx fun _ => rfl⟩
  | iny => exact ⟨_, rfl, .implied .iny fun _ => rfl⟩
  | dex => exact ⟨_, rfl, .implied .dex fun _ => rfl⟩
  | dey => exact ⟨_, rfl, .implied .dey fun _ => rfl⟩
  | andIndX | andZp | andImm | andAbs | andIndY | andZpX | andAbsY | andAbsX =>
    exact ⟨_, rfl, .reading .and fun _ => rfl⟩
  | oraIndX | oraZp | oraImm | oraAbs | oraIndY | oraZpX | oraAbsY | oraAbsX =>
    exact ⟨_, rfl, .reading .ora fun _ => rfl⟩
  | eorIndX | eorZp | eorImm | eorAbs | eorIndY | eorZpX | eorAbsY | eorAbsX =>
    exact ⟨_, rfl, .reading .eor fun _ => rfl⟩
  | bitZp | bitAbs => exact ⟨_, rfl, .reading .bit fun _ => rfl⟩
  | aslZp | aslAcc | aslAbs | aslZpX | aslAbsX =>
    exact ⟨_, rfl, .modifying .asl (by simp [accumulatorForms]) fun _ => rfl⟩
  | lsrZp | lsrAcc | lsrAbs | lsrZpX | lsrAbsX =>
    exact ⟨_, rfl, .modifying .lsr (by simp [accumulatorForms]) fun _ => rfl⟩
  | rolZp | rolAcc | rolAbs | rolZpX | rolAbsX =>
    exact ⟨_, rfl, .modifying .rol (by simp [accumulatorForms]) fun _ => rfl⟩
  | rorZp | rorAcc | rorAbs | rorZpX | rorAbsX =>
    exact ⟨_, rfl, .modifying .ror (by simp [accumulatorForms]) fun _ => rfl⟩
  | bpl | bmi | bvc | bvs | bcc | bcs | bne | beq => exact ⟨_, rfl, .branching rfl fun _ => rfl⟩
  | jmpAbs => exact ⟨_, rfl, .jmpAbs rfl fun _ => rfl⟩
  | jmpInd => exact ⟨_, rfl, .jmpInd rfl fun _ => rfl⟩
  | jsr => exact ⟨_, rfl, .jsr rfl fun _ => rfl⟩
  | rts => exact ⟨_, rfl, .implied .rts fun _ => rfl⟩
  | brk => exact ⟨_, rfl, .brk rfl fun _ => rfl⟩
  | rti => exact ⟨_, rfl, .implied .rti fun _ => rfl⟩
  | pha => exact ⟨_, rfl, .implied .pha fun _ => rfl⟩
  | php => exact ⟨_, rfl, .implied .php fun _ => rfl⟩
  | pla => exact ⟨_, rfl, .implied .pla fun _ => rfl⟩
  | plp => exact ⟨_, rfl, .implied .plp fun _ => rfl⟩
  | clc => exact ⟨_, rfl, .implied .clc fun _ => rfl⟩
  | sec => exact ⟨_, rfl, .implied .sec fun _ => rfl⟩
  | cli => exact ⟨_, rfl, .implied .cli fun _ => rfl⟩
  | sei => exact ⟨_, rfl, .implied .sei fun _ => rfl⟩
  | cld => exact ⟨_, rfl, .implied .cld fun _ => rfl⟩
  | sed => exact ⟨_, rfl, .implied .sed fun _ => rfl⟩
  | clv => exact ⟨_, rfl, .implied .clv fun _ => rfl⟩
  | nop => exact ⟨_, rfl, .implied .nop fun _ => rfl⟩

end Sys2Proof.Machine

namespace Sys2Proof

/-- The cycle counts of a record (R95, R321): a base of at least 2 which with the page-cross cycle is at most 7, and 2 for
a branch, whose own extra cycles come on top. -/
def Record.CyclesFit (r : Record) : Prop :=
  2 ≤ r.baseCycles ∧ r.baseCycles + (if r.pageCrossExtra then 1 else 0) ≤ 7 ∧ (r.mode = .relative → r.baseCycles = 2)

/-- Each row of the opcode map is checked on its own. -/
theorem cyclesFit_of_mem_opcodeMap : ∀ cell ∈ opcodeMap, ∀ r ∈ cell, Record.CyclesFit r := by
  simp only [opcodeMap, List.forall_mem_append, Record.CyclesFit]
  and_intros <;> decide

theorem cyclesFit_of_lookup {op : Byte} {r : Record} (h : lookup op = some r) : Record.CyclesFit r := by
  unfold lookup at h
  split at h
  next cell hc => exact cyclesFit_of_mem_opcodeMap cell (List.mem_of_getElem? hc) r h
  next => cases h

theorem Instr.mnemonic_of_record {i : Instr} {r : Record} (h : i.record = some r) : i.mnemonic = r.mnemonic := by
  simp [Instr.mnemonic, h]

end Sys2Proof
end

section
/-! Bookkeeping. The handlers neither read nor write the engine, the fault record, the cycle count and the host's inputs;
so no instruction reads them, and it writes only its cycles. -/

namespace Sys2Proof.Machine

open Sys2Proof.Claims

section Rebook

variable (e : Engine) (r : Option FaultRecord) (k : Nat) (nmi irq halt : Bool)

theorem rebook_addCycles (s : State) (n : Nat) :
    (rebook e r k nmi irq halt s).addCycles n = rebook e r k nmi irq halt (s.addCycles n) := by
  simp [rebook, State.addCycles, Nat.add_right_comm]

theorem setPC_rebook (s : State) (w : Word) :
    (rebook e r k nmi irq halt s).setPC w = rebook e r k nmi irq halt (s.setPC w) := rfl

theorem advance_rebook (s : State) (n : Nat) :
    (rebook e r k nmi irq halt s).advance n = rebook e r k nmi irq halt (s.advance n) := rfl

theorem pc_rebook (s : State) : (rebook e r k nmi irq halt s).pc = s.pc := rfl

theorem p_rebook (s : State) : (rebook e r k nmi irq halt s).p = s.p := rfl

theorem resolve_rebook (m : AddrMode) (s : State) : resolve m (rebook e r k nmi irq halt s) = resolve m s :=
  resolve_congr rfl rfl rfl rfl m

theorem readPtrBug_rebook (s : State) (ptr : Word) : (rebook e r k nmi irq halt s).readPtrBug ptr = s.readPtrBug ptr :=
  State.readPtrBug_congr rfl ptr

theorem Operand.value_rebook (o : Operand) (s : State) : o.value (rebook e r k nmi irq halt s) = o.value s :=
  Operand.value_congr rfl rfl rfl rfl o

theorem Operand.crossed_rebook (o : Operand) (s : State) : o.crossed (rebook e r k nmi irq halt s) = o.crossed s :=
  Operand.crossed_congr rfl rfl rfl rfl o

theorem Location.value_rebook (l : Location) (s : State) : l.value (rebook e r k nmi irq halt s) = l.value s :=
  Location.value_congr rfl rfl rfl rfl rfl l

theorem Location.crossed_rebook (l : Location) (s : State) :
    l.crossed (rebook e r k nmi irq halt s) = l.crossed s := by
  cases l with
  | accumulator => rfl
  | memory m => exact congrArg Resolved.pageCrossed (resolve_rebook e r k nmi irq halt m s)

theorem Location.store_rebook (l : Location) (before : State) (v : Byte) (s : State) :
    l.store (rebook e r k nmi irq halt before) v (rebook e r k nmi irq halt s) =
      rebook e r k nmi irq halt (l.store before v s) := by
  cases l with
  | accumulator => rfl
  | memory m => rw [Location.store_memory, Location.store_memory, resolve_rebook]; rfl

theorem push_rebook (s : State) (v : Byte) :
    (rebook e r k nmi irq halt s).push v = rebook e r k nmi irq halt (s.push v) := rfl

theorem pushWord_rebook (s : State) (w : Word) :
    (rebook e r k nmi irq halt s).pushWord w = rebook e r k nmi irq halt (s.pushWord w) := by
  simp only [State.pushWord, push_rebook]

theorem takeInterrupt_rebook (kind : InterruptKind) (s : State) :
    (rebook e r k nmi irq halt s).takeInterrupt kind = rebook e r k nmi irq halt (s.takeInterrupt kind) := by
  simp only [State.takeInterrupt, pc_rebook, p_rebook, pushWord_rebook, push_rebook]
  generalize (s.pushWord s.pc).push _ = pushed
  rfl

theorem ReadHandler.rebook {m : String} {h : Byte → State → State} (H : ReadHandler m h) (v : Byte) (s : State) :
    h v (rebook e r k nmi irq halt s) = rebook e r k nmi irq halt (h v s) := by
  cases H <;> rfl

theorem StoreSource.rebook {m : String} {source : State → Byte} (H : StoreSource m source) (s : State) :
    source (rebook e r k nmi irq halt s) = source s := by
  cases H <;> rfl

theorem ImpliedHandler.rebook {m : String} {h : State → State} (H : ImpliedHandler m h) (s : State) :
    h (rebook e r k nmi irq halt s) = rebook e r k nmi irq halt (h s) := by
  cases H <;> rfl

theorem reading_rebook {m : String} {h : Byte → State → State} (H : ReadHandler m h) (o : Operand) (base : Nat)
    (extra : Bool) (s : State) :
    reading o base extra h (rebook e r k nmi irq halt s) =
      mapNext (rebook e r k nmi irq halt) (reading o base extra h s) := by
  simp only [reading, mapNext, Operand.value_rebook, Operand.crossed_rebook, ← rebook_addCycles,
    ← H.rebook e r k nmi irq halt]
  rfl

theorem storing_rebook (m : AddrMode) (base : Nat) (extra : Bool) (v : Byte) (s : State) :
    storing m base extra v (rebook e r k nmi irq halt s) =
      mapNext (rebook e r k nmi irq halt) (storing m base extra v s) := by
  simp only [storing, mapNext, resolve_rebook, ← rebook_addCycles]
  rfl

theorem modifying_rebook (l : Location) (base : Nat) (extra : Bool) (alu : Byte → Byte → Byte × Byte) (s : State) :
    modifying l base extra alu (rebook e r k nmi irq halt s) =
      mapNext (rebook e r k nmi irq halt) (modifying l base extra alu s) := by
  have store := Location.store_rebook e r k nmi irq halt l s (alu s.p (l.value s)).2 (s.advance (1 + l.bytes))
  simp only [modifying, mapNext, Location.value_rebook, Location.crossed_rebook, ← rebook_addCycles]
  exact congrArg (fun t : State => Host.Outcome.next ((t.setP _).addCycles _)) store

theorem implied_rebook {m : String} {h : State → State} (H : ImpliedHandler m h) (base : Nat) (s : State) :
    implied base h (rebook e r k nmi irq halt s) =
      mapNext (rebook e r k nmi irq halt) (implied base h s) := by
  simp only [implied, mapNext, ← rebook_addCycles, ← H.rebook e r k nmi irq halt]
  rfl

theorem branching_rebook (f : Flag) (want : Bool) (d : Byte) (base : Nat) (s : State) :
    branching f want d base (rebook e r k nmi irq halt s) =
      mapNext (rebook e r k nmi irq halt) (branching f want d base s) := by
  simp only [branching, resolve_rebook, p_rebook, setPC_rebook, advance_rebook, rebook_addCycles]
  split <;> rfl

/-- Every form commutes with giving the bookkeeping other values. -/
theorem exec_rebook (i : Instr) (s : State) :
    exec i (rebook e r k nmi irq halt s) = mapNext (rebook e r k nmi irq halt) (exec i s) := by
  obtain ⟨record, -, form⟩ := exec_form i
  cases form with
  | reading h run => rw [run, run, reading_rebook _ _ _ _ _ _ h]
  | storing h run => rw [run, run, storing_rebook, h.rebook]
  | modifying h acc run => rw [run, run, modifying_rebook]
  | implied h run => rw [run, run, implied_rebook _ _ _ _ _ _ h]
  | branching rel run => rw [run, run, branching_rebook]
  | jmpAbs name run | jmpInd name run | jsr name run | brk name run =>
    simp only [run, mapNext, advance_rebook, pc_rebook, pushWord_rebook, readPtrBug_rebook, setPC_rebook,
      takeInterrupt_rebook, rebook_addCycles]

end Rebook

end Sys2Proof.Machine
end

section
/-! Effects. The state an instruction leaves before its cycles are accounted, and what that state keeps: the
bookkeeping, the canonical form of memory, the flags and the registers that the instruction does not write. -/

namespace Sys2Proof.Machine

open Sys2Proof.Claims

/-- What instruction `i` makes of `s` before its cycles are accounted. -/
inductive Effect (i : Instr) (s : State) : State → Prop
  | read {handler : Byte → State → State} (h : ReadHandler i.mnemonic handler) (v : Byte) (len : Nat) :
      Effect i s (handler v (s.advance len))
  | store {source : State → Byte} (h : StoreSource i.mnemonic source) (ea : Word) (len : Nat) :
      Effect i s ((s.advance len).write8 ea (source s))
  | modify {alu : Byte → Byte → Byte × Byte} (h : Alu i.mnemonic alu) (l : Location)
      (acc : l = .accumulator ↔ i ∈ accumulatorForms) (v : Byte) (len : Nat) :
      Effect i s ((l.store s (alu s.p v).2 (s.advance len)).setP (alu s.p v).1)
  | implied {handler : State → State} (h : ImpliedHandler i.mnemonic handler) : Effect i s (handler (s.advance 1))
  | jump (target : Word) : Effect i s (s.setPC target)
  | jsr (name : i.mnemonic = "JSR") (ret target : Word) : Effect i s (((s.advance 3).pushWord ret).setPC target)
  | brk (name : i.mnemonic = "BRK") (ret : Word) : Effect i s ((s.setPC ret).takeInterrupt .brk)

/-- R262, R320, R321: every instruction completes, with one of the effects and 2 to 7 cycles. -/
theorem exec_effect (i : Instr) (s : State) :
    ∃ u n, exec i s = .next (u.addCycles n) ∧ 2 ≤ n ∧ n ≤ 7 ∧ Effect i s u := by
  obtain ⟨r, hr, form⟩ := exec_form i
  obtain ⟨low, high, rel2⟩ := cyclesFit_of_lookup hr
  have name := Instr.mnemonic_of_record hr
  have costs := cost_bounds r.baseCycles r.pageCrossExtra
  cases form with
  | @reading _ o h run =>
    exact ⟨_, _, run s, low.trans (costs _).1, (costs _).2.trans high, .read (name ▸ h) _ _⟩
  | storing h run =>
    exact ⟨_, _, run s, low.trans (costs _).1, (costs _).2.trans high, .store (name ▸ h) _ _⟩
  | modifying h acc run =>
    exact ⟨_, _, run s, low.trans (costs _).1, (costs _).2.trans high, .modify (name ▸ h) _ acc _ _⟩
  | implied h run => exact ⟨_, _, run s, low, by omega, .implied (name ▸ h)⟩
  | branching rel run =>
    rw [run, branching, rel2 rel]
    split
    · exact ⟨_, _, rfl, by omega, by split <;> omega, .jump _⟩
    · exact ⟨_, _, rfl, by omega, by omega, .jump _⟩
  | jmpAbs h run => exact ⟨_, _, run s, low, by omega, .jump _⟩
  | jmpInd h run => exact ⟨_, _, run s, low, by omega, .jump _⟩
  | jsr h run => exact ⟨_, _, run s, low, by omega, .jsr (name.trans h) _ _⟩
  | brk h run => exact ⟨_, _, run s, low, by omega, .brk (name.trans h) _⟩

/-- The same of an instruction that answered `t`. -/
theorem effect_of_exec {i : Instr} {s t : State} (h : exec i s = .next t) :
    ∃ u n, t = u.addCycles n ∧ Effect i s u := by
  obtain ⟨u, n, hu, -, -, eff⟩ := exec_effect i s
  exact ⟨u, n, by simpa [hu] using h.symm, eff⟩

/-! The bookkeeping. -/

theorem ReadHandler.frame {m : String} {h : Byte → State → State} (H : ReadHandler m h) (v : Byte) (s : State) :
    SameControl s (h v s) ∧ (h v s).cycles = s.cycles ∧ (h v s).mem = s.mem ∧ (h v s).sp = s.sp := by
  cases H <;> exact ⟨⟨rfl, rfl, rfl, rfl, rfl⟩, rfl, rfl, rfl⟩

theorem ImpliedHandler.frame {m : String} {h : State → State} (H : ImpliedHandler m h) (s : State) :
    SameControl s (h s) ∧ (h s).cycles = s.cycles := by
  cases H with
  | rti => simp [SameControl]
  | _ => exact ⟨⟨rfl, rfl, rfl, rfl, rfl⟩, rfl⟩

theorem Effect.frame {i : Instr} {s u : State} (E : Effect i s u) : SameControl s u ∧ u.cycles = s.cycles := by
  cases E with
  | read h v len =>
    obtain ⟨control, cycles, -, -⟩ := h.frame v (s.advance len)
    exact ⟨control, cycles⟩
  | implied h => exact h.frame (s.advance 1)
  | modify h l acc v len => cases l <;> exact ⟨⟨rfl, rfl, rfl, rfl, rfl⟩, rfl⟩
  | store | jump | jsr | brk => simp [SameControl]

/-! The canonical form of memory. -/

theorem ImpliedHandler.wf {m : String} {h : State → State} (H : ImpliedHandler m h) {s : State}
    (hs : Memory.wf s.mem = true) : Memory.wf (h s).mem = true := by
  cases H with
  | pha | php => exact State.wf_push _ hs
  | _ => exact hs

theorem Effect.wf {i : Instr} {s u : State} (E : Effect i s u) (hs : Memory.wf s.mem = true) :
    Memory.wf u.mem = true := by
  cases E with
  | read h v len =>
    obtain ⟨-, -, mem, -⟩ := h.frame v (s.advance len)
    rwa [mem]
  | store h ea len => exact State.wf_write8 ea _ hs
  | modify h l acc v len => exact Location.wf_store l s _ hs
  | implied h => exact h.wf hs
  | jump target => exact hs
  | jsr name ret target => exact State.wf_pushWord ret hs
  | brk name ret => exact State.wf_takeInterrupt .brk hs

/-! The flags. -/

/-- The flags of `q` but those listed are the flags of `p`. -/
def WritesOnly (fs : List Flag) (p q : Byte) : Prop := ∀ f, f ∉ fs → getFlag q f = getFlag p f

theorem writesOnly_putFlag (f : Flag) (v : Bool) (p : Byte) : WritesOnly [f] p (putFlag p f v) :=
  fun g hg => by simp_all

theorem writesOnly_setZN (v p : Byte) : WritesOnly [.z, .n] p (setZN v p) :=
  fun g hg => by simp_all

theorem writesOnly_aluAdc (p a m : Byte) : WritesOnly [.c, .z, .v, .n] p (aluAdc p a m).1 :=
  fun g hg => by simp_all [aluAdc]

theorem writesOnly_aluSbc (p a m : Byte) : WritesOnly [.c, .z, .v, .n] p (aluSbc p a m).1 :=
  fun g hg => by simp_all [aluSbc]

theorem writesOnly_aluCompare (p r m : Byte) : WritesOnly [.c, .z, .n] p (aluCompare p r m) :=
  fun g hg => by simp_all [aluCompare]

theorem writesOnly_aluBit (p a m : Byte) : WritesOnly [.z, .v, .n] p (aluBit p a m) :=
  fun g hg => by simp_all [aluBit]

/-- ASL, LSR, ROL and ROR write C and then Z and N. -/
theorem writesOnly_carry_setZN (p v : Byte) (c : Bool) : WritesOnly [.c, .z, .n] p (setZN v (putFlag p .c c)) :=
  fun g hg => by simp_all

/-- The mnemonics that write a flag (R30-R36, D11, D33). -/
def flagWriters : Flag → List String
  | .c => ["ADC", "SBC", "CMP", "CPX", "CPY", "ASL", "LSR", "ROL", "ROR", "CLC", "SEC", "PLP", "RTI"]
  | .z | .n =>
    ["LDA", "LDX", "LDY", "TAX", "TAY", "TXA", "TYA", "TSX", "PLA", "ADC", "SBC", "AND", "ORA", "EOR", "INC", "DEC",
      "INX", "INY", "DEX", "DEY", "ASL", "LSR", "ROL", "ROR", "CMP", "CPX", "CPY", "BIT", "PLP", "RTI"]
  | .i => ["SEI", "CLI", "PLP", "RTI", "BRK"]
  | .d => ["SED", "CLD", "PLP", "RTI"]
  | .b | .u => ["PLP", "RTI"]
  | .v => ["ADC", "SBC", "BIT", "CLV", "PLP", "RTI"]

/-- From `p` to `q` the mnemonic `m` writes only flags it is a writer of, and it does not clear the unused bit. -/
structure FlagEffect (m : String) (p q : Byte) : Prop where
  writers : ∀ f, getFlag q f ≠ getFlag p f → m ∈ flagWriters f
  unused : getFlag p .u = true → getFlag q .u = true

theorem FlagEffect.refl (m : String) (p : Byte) : FlagEffect m p p :=
  ⟨fun _ h => absurd rfl h, id⟩

theorem FlagEffect.of_writesOnly {m : String} {p q : Byte} {fs : List Flag} (h : WritesOnly fs p q)
    (hm : ∀ f ∈ fs, m ∈ flagWriters f) (hu : Flag.u ∉ fs) : FlagEffect m p q where
  writers f hf := hm f (by_contra fun hn => hf (h f hn))
  unused hp := (h .u hu).trans hp

/-- R38: a pulled status byte may change every flag, and sets the unused bit. -/
theorem FlagEffect.of_pulledP {m : String} (hm : ∀ f, m ∈ flagWriters f) (p b : Byte) : FlagEffect m p (pulledP b) where
  writers f _ := hm f
  unused _ := by simp [getFlag_pulledP]

theorem ReadHandler.flags {m : String} {h : Byte → State → State} (H : ReadHandler m h) (v : Byte) (s : State) :
    FlagEffect m s.p (h v s).p := by
  cases H with
  | lda | ldx | ldy | and | ora | eor => exact .of_writesOnly (writesOnly_setZN _ _) (by decide) (by decide)
  | adc => exact .of_writesOnly (writesOnly_aluAdc _ _ _) (by decide) (by decide)
  | sbc => exact .of_writesOnly (writesOnly_aluSbc _ _ _) (by decide) (by decide)
  | cmp | cpx | cpy => exact .of_writesOnly (writesOnly_aluCompare _ _ _) (by decide) (by decide)
  | bit => exact .of_writesOnly (writesOnly_aluBit _ _ _) (by decide) (by decide)

theorem Alu.flags {m : String} {alu : Byte → Byte → Byte × Byte} (H : Alu m alu) (p v : Byte) :
    FlagEffect m p (alu p v).1 := by
  cases H with
  | inc | dec => exact .of_writesOnly (writesOnly_setZN _ _) (by decide) (by decide)
  | asl | lsr | rol | ror => exact .of_writesOnly (writesOnly_carry_setZN _ _ _) (by decide) (by decide)

theorem ImpliedHandler.flags {m : String} {h : State → State} (H : ImpliedHandler m h) (s : State) :
    FlagEffect m s.p (h s).p := by
  cases H with
  | tax | tay | txa | tya | tsx | inx | iny | dex | dey | pla =>
    exact .of_writesOnly (writesOnly_setZN _ _) (by decide) (by decide)
  | clc | sec | cli | sei | cld | sed | clv =>
    exact .of_writesOnly (writesOnly_putFlag _ _ _) (by decide) (by decide)
  | plp => exact .of_pulledP (fun f => by cases f <;> decide) _ _
  | rti =>
    rw [State.returnFromInterrupt_p]
    exact .of_pulledP (fun f => by cases f <;> decide) _ _
  | txs | rts | pha | php | nop => exact .refl _ _

theorem Effect.flags {i : Instr} {s u : State} (E : Effect i s u) : FlagEffect i.mnemonic s.p u.p := by
  cases E with
  | read h v len => exact h.flags v (s.advance len)
  | modify h l acc v len => exact h.flags s.p v
  | implied h => exact h.flags (s.advance 1)
  | store | jump => exact .refl _ _
  | jsr name ret target =>
    rw [State.setPC_p, State.pushWord_p]
    exact .refl _ s.p
  | brk name ret =>
    rw [name, State.takeInterrupt_p]
    exact .of_writesOnly (writesOnly_putFlag _ _ _) (by decide) (by decide)

/-! The registers. -/

/-- The mnemonics that write `A` in every form they have (R21); the accumulator forms write it too. -/
def aWriters : List String := ["LDA", "TXA", "TYA", "PLA", "ADC", "SBC", "AND", "ORA", "EOR"]

/-- The mnemonics that write `X` (R22). -/
def xWriters : List String := ["LDX", "TAX", "TSX", "INX", "DEX"]

/-- The mnemonics that write `Y` (R22). -/
def yWriters : List String := ["LDY", "TAY", "INY", "DEY"]

/-- The mnemonics that write `SP` (R25). -/
def spWriters : List String := ["TXS", "PHA", "PHP", "PLA", "PLP", "JSR", "RTS", "RTI", "BRK"]

/-- From `s` to `t` the mnemonic `m` writes only registers it is a writer of. -/
structure RegisterEffect (m : String) (s t : State) : Prop where
  a : t.a = s.a ∨ m ∈ aWriters
  x : t.x = s.x ∨ m ∈ xWriters
  y : t.y = s.y ∨ m ∈ yWriters
  sp : t.sp = s.sp ∨ m ∈ spWriters

theorem RegisterEffect.of_advance {m : String} {s t : State} {len : Nat} (h : RegisterEffect m (s.advance len) t) :
    RegisterEffect m s t :=
  ⟨h.a, h.x, h.y, h.sp⟩

theorem ReadHandler.registers {m : String} {h : Byte → State → State} (H : ReadHandler m h) (v : Byte) (s : State) :
    RegisterEffect m s (h v s) := by
  cases H with
  | lda | adc | sbc | and | ora | eor => exact ⟨.inr (by decide), .inl rfl, .inl rfl, .inl rfl⟩
  | ldx => exact ⟨.inl rfl, .inr (by decide), .inl rfl, .inl rfl⟩
  | ldy => exact ⟨.inl rfl, .inl rfl, .inr (by decide), .inl rfl⟩
  | cmp | cpx | cpy | bit => exact ⟨.inl rfl, .inl rfl, .inl rfl, .inl rfl⟩

theorem ImpliedHandler.registers {m : String} {h : State → State} (H : ImpliedHandler m h) (s : State) :
    RegisterEffect m s (h s) := by
  cases H with
  | txa | tya => exact ⟨.inr (by decide), .inl rfl, .inl rfl, .inl rfl⟩
  | pla => exact ⟨.inr (by decide), .inl rfl, .inl rfl, .inr (by decide)⟩
  | tax | tsx | inx | dex => exact ⟨.inl rfl, .inr (by decide), .inl rfl, .inl rfl⟩
  | tay | iny | dey => exact ⟨.inl rfl, .inl rfl, .inr (by decide), .inl rfl⟩
  | txs | rts | pha | php | plp => exact ⟨.inl rfl, .inl rfl, .inl rfl, .inr (by decide)⟩
  | rti =>
    exact ⟨.inl (State.returnFromInterrupt_a s), .inl (State.returnFromInterrupt_x s),
      .inl (State.returnFromInterrupt_y s), .inr (by decide)⟩
  | clc | sec | cli | sei | cld | sed | clv | nop => exact ⟨.inl rfl, .inl rfl, .inl rfl, .inl rfl⟩

/-- The forms in Accumulator mode write `A` beside the writers by mnemonic. -/
theorem Effect.registers {i : Instr} {s u : State} (E : Effect i s u) :
    RegisterEffect i.mnemonic s u ∨
      i ∈ accumulatorForms ∧ u.x = s.x ∧ u.y = s.y ∧ u.sp = s.sp := by
  cases E with
  | read h v len => exact .inl (h.registers v _).of_advance
  | implied h => exact .inl (h.registers _).of_advance
  | modify h l acc v len =>
    cases l with
    | accumulator => exact .inr ⟨acc.mp rfl, rfl, rfl, rfl⟩
    | memory m => exact .inl ⟨.inl rfl, .inl rfl, .inl rfl, .inl rfl⟩
  | store | jump => exact .inl ⟨.inl rfl, .inl rfl, .inl rfl, .inl rfl⟩
  | jsr name | brk name => exact .inl ⟨by simp, by simp, by simp, .inr (by rw [name]; decide)⟩

end Sys2Proof.Machine
end

section
/-! The instructions: what every one keeps, and what each may write. -/

namespace Sys2Proof.Proofs

open Sys2Proof.Machine Sys2Proof.Claims

/-- Settles O13: every form commutes with giving the bookkeeping other values. -/
theorem instructionsIgnoreBookkeeping : Obligations.InstructionsIgnoreBookkeeping :=
  fun i s e r k nmi irq halt => exec_rebook e r k nmi irq halt i s

/-- Settles O14: the effect keeps the bookkeeping, and the cycles are those of the record. -/
theorem everyInstructionCompletes : Obligations.EveryInstructionCompletes := by
  intro i s
  obtain ⟨u, n, run, low, high, eff⟩ := exec_effect i s
  obtain ⟨control, cycles⟩ := eff.frame
  refine ⟨_, run, control, ?_⟩
  rw [State.addCycles_cycles, cycles]
  omega

/-- Settles O20, from the registers each effect writes. -/
theorem registersChangeOnlyByTheirWriters : Obligations.RegistersChangeOnlyByTheirWriters := by
  intro i s t h
  obtain ⟨u, n, rfl, eff⟩ := effect_of_exec h
  obtain reg | ⟨acc, hx, hy, hsp⟩ := eff.registers
  · exact ⟨fun ha => .inl (reg.a.resolve_left ha), reg.x.resolve_left, reg.y.resolve_left, reg.sp.resolve_left⟩
  · exact ⟨fun _ => .inr acc, fun h => absurd hx h, fun h => absurd hy h, fun h => absurd hsp h⟩

/-- Settles O21, from the flags each effect writes. -/
theorem flagsChangeOnlyByTheirWriters : Obligations.FlagsChangeOnlyByTheirWriters := by
  intro i s t h
  obtain ⟨u, n, rfl, eff⟩ := effect_of_exec h
  have writers := eff.flags.writers
  exact ⟨writers .c, writers .z, writers .i, writers .d, writers .b, writers .u, writers .v, writers .n⟩

end Sys2Proof.Proofs
end

section
/-! The step: when it is taken, what it meets first, and what it keeps. -/

namespace Sys2Proof.Machine

open Sys2Proof.Claims

theorem stepBlocked_of_ready {s : State} (h : s.engine = .ready) : stepBlocked s = none := by
  simp [stepBlocked, h]

/-- R266: nothing is served where nothing keeps the step from fetching. -/
theorem boundaryEvent_of_fetches {s : State} (h : Fetches s) : boundaryEvent s = none := by
  obtain ⟨-, halt, nmi, masked⟩ := h
  have hi : s.irqLine = true → getFlag s.p .i = true := masked
  simpa [boundaryEvent, halt, nmi] using hi

theorem step_of_boundaryEvent {s t : State} (he : s.engine = .ready) (hb : boundaryEvent s = some t) :
    step s = .next t := by
  simp [step_eq, stepBlocked_of_ready he, hb]

theorem step_of_fetch_error {s : State} {op : Byte} (he : s.engine = .ready) (hb : boundaryEvent s = none)
    (hf : fetch s = .error op) : step s = .next (s.enterFaulted op) := by
  simp [step_eq, stepBlocked_of_ready he, hb, hf]

theorem step_of_fetch_ok {s : State} {i : Instr} (he : s.engine = .ready) (hb : boundaryEvent s = none)
    (hf : fetch s = .ok i) : step s = exec i s := by
  simp [step_eq, stepBlocked_of_ready he, hb, hf]

theorem step_of_halted {s : State} (h : s.engine = .halted) : step s = .fault .stepWhileHalted := by
  simp [step_eq, stepBlocked, h]

theorem step_of_faulted {s : State} (h : s.engine = .faulted) : step s = .fault (.stepWhileFaulted s.fault) := by
  simp [step_eq, stepBlocked, h]

/-- R97: the map has no entry for a listed opcode. -/
theorem lookup_of_undefined : ∀ op ∈ undefinedOpcodes, lookup op = none := by
  have all : undefinedOpcodes.all (fun op => (lookup op).isNone) = true := by decide
  exact fun op h => Option.isNone_iff_eq_none.mp (List.all_eq_true.mp all op h)

/-- What a step makes of the ready engine's state: one of the events of the boundary, the fault, or an instruction. -/
inductive StepEffect (s : State) : State → Prop
  | halt : StepEffect s s.enterHalted
  | nmi : StepEffect s s.serviceNmi
  | irq : StepEffect s s.serviceIrq
  | fault {op : Byte} (undef : lookup op = none) : StepEffect s (s.enterFaulted op)
  | instr {i : Instr} {u : State} (eff : Effect i s u) (n : Nat) : StepEffect s (u.addCycles n)

theorem step_effect {s t : State} (h : step s = .next t) : s.engine = .ready ∧ StepEffect s t := by
  obtain ⟨ready, event | ⟨-, undef, rfl⟩ | ⟨-, i, -, run⟩⟩ := step_cases h
  · refine ⟨ready, ?_⟩
    obtain ⟨-, rfl⟩ | ⟨-, -, rfl⟩ | ⟨-, -, -, -, rfl⟩ := boundaryEvent_cases event
    · exact .halt
    · exact .nmi
    · exact .irq
  · exact ⟨ready, .fault undef⟩
  · obtain ⟨u, n, rfl, eff⟩ := effect_of_exec run
    exact ⟨ready, .instr eff n⟩

/-- R265: while `P.I` is set the event of the boundary does not depend on the line, which it leaves as it is. -/
theorem boundaryEvent_setIrqLine {s : State} (hi : getFlag s.p .i = true) (level : Bool) :
    boundaryEvent (s.setIrqLine level) = (boundaryEvent s).map fun t => t.setIrqLine level := by
  unfold boundaryEvent
  simp only [State.setIrqLine_haltRequest, State.setIrqLine_nmiPending, State.setIrqLine_p, hi]
  split
  · rfl
  · split
    · rfl
    · simp

/-- The line, driven to another level, is bookkeeping given another value. -/
theorem exec_setIrqLine (i : Instr) (s : State) (level : Bool) :
    exec i (s.setIrqLine level) = mapNext (fun t => t.setIrqLine level) (exec i s) := by
  obtain ⟨u, n, run, -, -, eff⟩ := exec_effect i s
  obtain ⟨⟨engine, fault, nmi, -, halt⟩, -⟩ := eff.frame
  have rebooked : exec i (s.setIrqLine level) = _ :=
    exec_rebook s.engine s.fault 0 s.nmiPending level s.haltRequest i s
  rw [rebooked, run]
  simp only [mapNext, rebook, State.addCycles, State.setIrqLine, engine, fault, nmi, halt, Nat.add_zero]

/-! The invariant. -/

theorem State.inv_iff (s : State) : s.inv = true ↔ Memory.wf s.mem = true ∧ faultConsistent s = true := by
  simp [State.inv]

theorem faultConsistent_of_fault_none {s : State} (hf : s.fault = none) (he : s.engine ≠ .faulted) :
    faultConsistent s = true := by
  simp [faultConsistent, hf, he]

theorem fault_none_of_ready {s : State} (h : faultConsistent s = true) (he : s.engine = .ready) : s.fault = none := by
  cases hf : s.fault with
  | none => rfl
  | some r => simp [faultConsistent, hf, he] at h

/-- R260: the record of the fault agrees with the state it leaves. -/
theorem faultConsistent_enterFaulted (s : State) {op : Byte} (h : lookup op = none) :
    faultConsistent (s.enterFaulted op) = true := by
  simp [faultConsistent, State.enterFaulted, h]

theorem inv_step {s t : State} (hs : s.inv = true) (h : step s = .next t) : t.inv = true := by
  obtain ⟨wf, agree⟩ := (State.inv_iff s).mp hs
  obtain ⟨ready, eff⟩ := step_effect h
  have clear := fault_none_of_ready agree ready
  rw [State.inv_iff]
  cases eff with
  | halt => exact ⟨wf, faultConsistent_of_fault_none clear (by simp [State.enterHalted])⟩
  | nmi =>
    exact ⟨State.wf_serviceNmi wf,
      faultConsistent_of_fault_none (by simp [State.serviceNmi, clear]) (by simp [State.serviceNmi, ready])⟩
  | irq =>
    exact ⟨State.wf_serviceIrq wf,
      faultConsistent_of_fault_none (by simp [State.serviceIrq, clear]) (by simp [State.serviceIrq, ready])⟩
  | fault undef => exact ⟨wf, faultConsistent_enterFaulted s undef⟩
  | instr eff n =>
    obtain ⟨⟨engine, fault, -⟩, -⟩ := eff.frame
    exact ⟨eff.wf wf, faultConsistent_of_fault_none (fault.trans clear) (by simp [engine, ready])⟩

theorem unused_step {s t : State} (hs : getFlag s.p .u = true) (h : step s = .next t) : getFlag t.p .u = true := by
  obtain ⟨-, eff⟩ := step_effect h
  cases eff with
  | halt | fault => exact hs
  | nmi => simpa [State.serviceNmi] using hs
  | irq => simpa [State.serviceIrq] using hs
  | instr eff n => exact eff.flags.unused hs

end Sys2Proof.Machine
end

section
/-! The obligations about the step. -/

namespace Sys2Proof.Proofs

open Sys2Proof.Machine Sys2Proof.Claims

/-- Settles O16: `inv_step`, by the effect of the step. -/
theorem stepKeepsInvariant : Obligations.StepKeepsInvariant := fun _ _ => inv_step

/-- Settles O19: `unused_step`, by the effect of the step. -/
theorem stepKeepsUnusedBitSet : Obligations.StepKeepsUnusedBitSet := fun _ _ => unused_step

/-- Settles O6: the fetch fails on an opcode without a record, and the faulted engine takes no step. -/
theorem stepFaultsOnUndefinedOpcode : Obligations.StepFaultsOnUndefinedOpcode := by
  intro s fetches undef
  have failed : fetch s = .error (s.read8 s.pc) := by simp [fetch_eq, lookup_of_undefined _ undef]
  exact ⟨_, step_of_fetch_error fetches.1 (boundaryEvent_of_fetches fetches) failed, rfl, step_of_faulted rfl⟩

/-- Settles O8: in the ready engine an event, the fault or the instruction answers a next state. -/
theorem stepEnabledOnlyWhenReady : Obligations.StepEnabledOnlyWhenReady := by
  refine fun s => ⟨step_of_halted, step_of_faulted, fun ready => ?_⟩
  cases event : boundaryEvent s with
  | some t => exact ⟨t, step_of_boundaryEvent ready event⟩
  | none =>
    cases fetched : fetch s with
    | error op => exact ⟨_, step_of_fetch_error ready event fetched⟩
    | ok i =>
      obtain ⟨u, n, run, -⟩ := exec_effect i s
      exact ⟨_, (step_of_fetch_ok ready event fetched).trans run⟩

/-- Settles O9: the halt request is the first event of the boundary. -/
theorem stepMeetsHaltRequestFirst : Obligations.StepMeetsHaltRequestFirst :=
  fun s ready halt => step_of_boundaryEvent ready (by simp [boundaryEvent, halt]; rfl)

/-- Settles O12: with I set, neither the boundary nor the fetch nor an instruction looks at the line. -/
theorem maskedIrqHasNoEffect : Obligations.MaskedIrqHasNoEffect := by
  intro s level masked
  have event := boundaryEvent_setIrqLine (s := s) masked level
  change step (s.setIrqLine level) = mapNext (fun t => t.setIrqLine level) (step s)
  cases engine : s.engine with
  | halted => rw [step_of_halted engine, step_of_halted (s := s.setIrqLine level) engine]; rfl
  | faulted => rw [step_of_faulted engine, step_of_faulted (s := s.setIrqLine level) engine]; rfl
  | ready =>
    have engine' : (s.setIrqLine level).engine = .ready := engine
    cases here : boundaryEvent s with
    | some t =>
      rw [here] at event
      rw [step_of_boundaryEvent engine here, step_of_boundaryEvent engine' event]
      rfl
    | none =>
      rw [here] at event
      have same : fetch (s.setIrqLine level) = fetch s := rfl
      cases fetched : fetch s with
      | error op =>
        rw [step_of_fetch_error engine here fetched, step_of_fetch_error engine' event (same.trans fetched)]
        rfl
      | ok i =>
        rw [step_of_fetch_ok engine here fetched, step_of_fetch_ok engine' event (same.trans fetched),
          exec_setIrqLine]

end Sys2Proof.Proofs
end

section
/-! Interrupts: the frame an interrupt leaves on the stack, and what the return makes of it. -/

namespace Sys2Proof.Machine

open Sys2Proof.Claims

theorem flagsOf_putFlag_i (p : Byte) : flagsOf (putFlag p .i true) = { flagsOf p with i := true } := by
  have bits := getFlag_putFlag p .i
  simp only [flagsOf, Flags.mk.injEq]
  exact ⟨bits .n _, bits .v _, bits .u _, bits .b _, bits .d _, bits .i _, bits .z _, bits .c _⟩

theorem loByte_toNat (w : Word) : (loByte w).toNat = w.toNat % 256 := by simp [loByte]

theorem hiByte_toNat (w : Word) : (hiByte w).toNat = w.toNat / 256 := by
  have := w.isLt
  simp [hiByte, Nat.shiftRight_eq_div_pow]
  omega

/-- R64: the two bytes of a word read from memory. -/
theorem State.read16_toNat (s : State) (a : Word) :
    (s.read16 a).toNat = (s.read8 a).toNat + 256 * (s.read8 (a + 1)).toNat := by
  rw [State.read16_eq, wordOf_toNat]

/-- R37: the byte BRK and PHP push is `P` with bits 4 and 5 set. -/
theorem pushedP_true (p : Byte) : pushedP true p = p ||| 0x30 := by
  simp [pushedP, BitVec.or_assoc]

/-- The three stack addresses of an interrupt frame are distinct. -/
theorem stackAddr_frame_ne (sp : Byte) :
    stackAddr sp ≠ stackAddr (sp - 1) ∧ stackAddr sp ≠ stackAddr (sp - 2) ∧
      stackAddr (sp - 1) ≠ stackAddr (sp - 2) := by
  simp only [ne_eq, stackAddr_inj]
  refine ⟨?_, ?_, ?_⟩ <;> bv_omega

/-- R267, R269: the frame of every interrupt. -/
theorem takeInterrupt_pushedFrame (s : State) (kind : InterruptKind) :
    PushedFrame s (s.takeInterrupt kind) s.pc (pushedP (kind == .brk) s.p) := by
  obtain ⟨h01, h02, h12⟩ := stackAddr_frame_ne s.sp
  refine ⟨?_, ?_, ?_, fun a h0 h1 h2 => ?_⟩
  · simp only [State.read8_takeInterrupt, h01, h02, if_false, if_true, hiByte_toNat]
  · simp only [State.read8_takeInterrupt, h12, if_false, if_true, loByte_toNat]
  · simp only [State.read8_takeInterrupt, if_true]
  · simp only [State.read8_takeInterrupt, h0, h1, h2, if_false]

theorem pushedFrame_addCycles {s t : State} {pc : Word} {status : Byte} (h : PushedFrame s t pc status) (n : Nat) :
    PushedFrame s (t.addCycles n) pc status := h

theorem pushedFrame_of_setPC {s t : State} {pc pc' : Word} {status : Byte}
    (h : PushedFrame (s.setPC pc') t pc status) : PushedFrame s t pc status := h

/-- R223, R267, R271: the return undoes an interrupt, whatever `PC` it is run at, but for B and the unused bit. -/
theorem returnFromInterrupt_takeInterrupt (s : State) (kind : InterruptKind) (pc : Word) :
    let u := ((s.takeInterrupt kind).setPC pc).returnFromInterrupt
    u.pc = s.pc ∧ u.sp = s.sp ∧ u.p = pulledP (pushedP (kind == .brk) s.p) := by
  obtain ⟨h01, h02, h12⟩ := stackAddr_frame_ne s.sp
  have e1 : s.sp - 3 + 1 = s.sp - 2 := by bv_omega
  have e2 : s.sp - 3 + 2 = s.sp - 1 := by bv_omega
  have e3 : s.sp - 3 + 3 = s.sp := by bv_omega
  refine ⟨?_, ?_, ?_⟩
  · simp only [State.returnFromInterrupt_pc, State.read8_setPC, State.setPC_sp, State.takeInterrupt_sp, e2, e3,
      State.read8_takeInterrupt, h01, h02, h12, if_false, if_true, wordOf_loByte_hiByte]
  · simp only [State.returnFromInterrupt_sp, State.setPC_sp, State.takeInterrupt_sp, e3]
  · simp only [State.returnFromInterrupt_p, State.read8_setPC, State.setPC_sp, State.takeInterrupt_sp, e1,
      State.read8_takeInterrupt, if_true]

theorem flagsOf_pulledP_pushedP (brk : Bool) (p : Byte) :
    flagsOf (pulledP (pushedP brk p)) = { flagsOf p with u := true, b := brk } := by
  have bits (f : Flag) : getFlag (pulledP (pushedP brk p)) f =
      if f = .u then true else if f = .b then brk else getFlag p f := by
    rw [getFlag_pulledP, getFlag_pushedP]
    split <;> rfl
  simp only [flagsOf, Flags.mk.injEq]
  exact ⟨bits .n, bits .v, bits .u, bits .b, bits .d, bits .i, bits .z, bits .c⟩

end Sys2Proof.Machine

namespace Sys2Proof.Proofs

open Sys2Proof.Machine Sys2Proof.Claims

/-- Settles O49: BRK is the interrupt sequence run with `PC` two past the opcode. -/
theorem brkTakesTheInterrupt : Obligations.BrkTakesTheInterrupt := by
  refine fun s => ⟨rfl, _, exec_brk s, by simp [SameControl], ?_, by simp [Regs], ?_, ?_, by simp⟩
  · rw [← pushedP_true]
    exact pushedFrame_addCycles (pushedFrame_of_setPC (takeInterrupt_pushedFrame (s.setPC (s.pc + 2)) .brk)) 7
  · rw [State.addCycles_p, State.takeInterrupt_p]
    exact flagsOf_putFlag_i s.p
  · rw [State.addCycles_pc, State.takeInterrupt_pc, State.read16_toNat]
    rfl

/-- Settles O51: RTI is the return, run with `PC` one past the vector's address. -/
theorem rtiUndoesTheInterrupt : Obligations.RtiUndoesTheInterrupt := by
  intro s u kind run
  obtain rfl := implied_next (run : implied 6 State.returnFromInterrupt _ = .next u)
  obtain ⟨pc, sp, p⟩ := returnFromInterrupt_takeInterrupt s kind ((s.takeInterrupt kind).pc + 1)
  refine ⟨pc, ⟨by simp, by simp, by simp, sp⟩, ?_⟩
  have kinds : (kind == .brk) = decide (kind = .brk) := by cases kind <;> rfl
  rw [← kinds, ← flagsOf_pulledP_pushedP]
  exact congrArg flagsOf p

end Sys2Proof.Proofs
end

section
/-! The calls of the host. -/

namespace Sys2Proof.Machine

theorem inv_storeBytes {s : State} (bytes : List Byte) (addr : Word) (h : s.inv = true) :
    (s.storeBytes addr bytes).inv = true := by
  obtain ⟨wf, agree⟩ := (State.inv_iff s).mp h
  refine (State.inv_iff _).mpr ⟨State.wf_storeBytes bytes addr wf, ?_⟩
  rw [State.storeBytes_frame]
  exact agree

/-- R28, D31: the two flag calls on a bit that is one of `P`'s. -/
theorem hostSetFlag_of_lt {bit : Nat} (h : bit < 8) (s : State) (v : Bool) :
    s.hostSetFlag bit v = .next (s.setP (setBit s.p bit v)) := by
  simp [State.hostSetFlag, flagBitWellFormed, h]

theorem hostIsFlagSet_of_lt {bit : Nat} (h : bit < 8) (s : State) : s.hostIsFlagSet bit = .ok (testBit s.p bit) := by
  simp [State.hostIsFlagSet, flagBitWellFormed, h]

/-- R28, R44, R45, R83, R264, R300: a call of the host writes no field that the invariant reads, but for load, which
keeps memory canonical, and reset, which clears the fault. -/
theorem inv_hostCall {c : HostCall} {s t : State} (hs : s.inv = true) (h : hostCall c s = .next t) : t.inv = true := by
  cases c with
  | reset =>
    cases h
    exact (State.inv_iff _).mpr ⟨((State.inv_iff s).mp hs).1, rfl⟩
  | load bytes origin =>
    cases h
    exact inv_storeBytes bytes origin hs
  | signalNmi | setIrq | requestHalt =>
    cases h
    exact hs
  | setFlag bit v =>
    by_cases hb : bit < 8
    · cases (hostSetFlag_of_lt hb s v).symm.trans h
      exact hs
    · simp [hostCall, State.hostSetFlag, flagBitWellFormed, hb] at h

end Sys2Proof.Machine

namespace Sys2Proof.Proofs

open Sys2Proof.Machine Sys2Proof.Claims

/-- Settles O17: the invariant by `inv_hostCall`; a session refuses by whether its load has completed. -/
theorem hostCallKeepsInvariant : Obligations.HostCallKeepsInvariant := by
  refine ⟨fun c s t => inv_hostCall, fun s level => ⟨rfl, rfl, rfl⟩, fun k e bytes origin => ⟨fun h => ?_, fun h => ?_⟩⟩
  · simp [sessionCall, Session.step, h]
  · simp [sessionCall, Session.load, h]

/-- Settles O57: reset reads the vector and writes the rest; the status is a constant. -/
theorem hostResetLeavesStatedValues : Obligations.HostResetLeavesStatedValues := by
  intro s
  have status : flagsOf Config.resetP = ⟨false, false, true, false, false, true, false, false⟩ := by decide
  exact ⟨s.doReset, rfl, State.read16_toNat s Config.resetVector, ⟨rfl, rfl, rfl, rfl⟩, status, rfl, rfl, rfl, rfl, rfl,
    rfl, rfl⟩

/-- Settles O59, from the bits of `setBit`. -/
theorem hostSetFlagWritesOneBit : Obligations.HostSetFlagWritesOneBit := by
  refine fun bit v s => ⟨fun hb => ?_, fun hb => ?_⟩
  · refine ⟨_, hostSetFlag_of_lt hb s v, rfl, ?_, fun k hk hne => ?_⟩
    · rw [hostIsFlagSet_of_lt hb, State.setP_p, testBit_setBit s.p hb hb, if_pos rfl]
    · exact (testBit_setBit s.p hb hk v).trans (if_neg hne)
  · simp [hostCall, State.hostSetFlag, State.hostIsFlagSet, flagBitWellFormed, Nat.not_lt.mpr hb]

/-- Settles O18: nothing is listed and no fault is recorded. -/
theorem resetMeetsInvariant : Obligations.ResetMeetsInvariant :=
  (State.inv_iff _).mpr ⟨State.reset_mem_wf, faultConsistent_of_fault_none rfl (by decide)⟩

/-- Settles O60: a view lists the character of each bit, bit 7 first. -/
theorem statusViewsPrintTheBits : Obligations.StatusViewsPrintTheBits := by
  refine ⟨fun s view => String.toList_ofList, fun p => ⟨rfl, rfl, fun k hk => ?_⟩⟩
  interval_cases k <;> exact ⟨rfl, rfl⟩

end Sys2Proof.Proofs
end

section
/-! Memory: what writes it, how its words are read, and what the host's load leaves in it. -/

namespace Sys2Proof.Machine

/-! The writers of memory. -/

/-- The mnemonics that write memory (R153-R155, R175, R176, R194-R197, R220, R222, R240, R241); the accumulator forms
among them do not. -/
def memoryWriters : List String :=
  ["STA", "STX", "STY", "INC", "DEC", "ASL", "LSR", "ROL", "ROR", "PHA", "PHP", "JSR", "BRK"]

/-- The mnemonics that have an accumulator form (R194-R197). -/
def shiftMnemonics : List String := ["ASL", "LSR", "ROL", "ROR"]

theorem mnemonic_of_accumulatorForm : ∀ i ∈ accumulatorForms, i.mnemonic ∈ shiftMnemonics := by
  simp [accumulatorForms, shiftMnemonics]

/-- No accumulator form has a mnemonic other than the four shifts, so such a mnemonic needs no look at the form. -/
theorem writesMemory_of_mnemonic {i : Instr} {m : String} (name : i.mnemonic = m)
    (hm : m ∈ memoryWriters ∧ m ∉ shiftMnemonics) : i.mnemonic ∈ memoryWriters ∧ i ∉ accumulatorForms :=
  ⟨name ▸ hm.1, fun acc => hm.2 (name ▸ mnemonic_of_accumulatorForm i acc)⟩

theorem StoreSource.writesMemory {m : String} {source : State → Byte} (H : StoreSource m source) :
    m ∈ memoryWriters ∧ m ∉ shiftMnemonics := by
  cases H <;> decide

theorem Alu.writesMemory {m : String} {alu : Byte → Byte → Byte × Byte} (H : Alu m alu) : m ∈ memoryWriters := by
  cases H <;> decide

/-- Of the instructions with no operand only the pushes write memory (R240, R241). -/
theorem ImpliedHandler.memory {m : String} {h : State → State} (H : ImpliedHandler m h) (s : State) :
    (h s).mem = s.mem ∨ m ∈ memoryWriters ∧ m ∉ shiftMnemonics := by
  cases H with
  | pha | php => exact .inr (by decide)
  | rti => exact .inl (State.returnFromInterrupt_mem s)
  | _ => exact .inl rfl

/-- R73: an instruction keeps memory whole, or it is a writer of memory and no accumulator form. -/
theorem Effect.memory {i : Instr} {s u : State} (E : Effect i s u) :
    u.mem = s.mem ∨ i.mnemonic ∈ memoryWriters ∧ i ∉ accumulatorForms := by
  cases E with
  | read h v len =>
    obtain ⟨-, -, mem, -⟩ := h.frame v (s.advance len)
    exact .inl mem
  | store h ea len => exact .inr (writesMemory_of_mnemonic rfl h.writesMemory)
  | modify h l acc v len =>
    cases l with
    | accumulator => exact .inl rfl
    | memory m => exact .inr ⟨h.writesMemory, fun hi => Location.noConfusion (acc.mpr hi)⟩
  | implied h => exact (h.memory (s.advance 1)).imp_right (writesMemory_of_mnemonic rfl)
  | jump target => exact .inl rfl
  | jsr name | brk name => exact .inr (writesMemory_of_mnemonic name (by decide))

/-! The second address of each word read, in plain arithmetic. -/

theorem word_succ (a : Word) : a + 1 = BitVec.ofNat 16 ((a.toNat + 1) % 65536) := by
  bv_omega

/-- R65: the high byte of the pointer is kept, its low byte wraps. -/
theorem pageWrap_eq_wordOf (ptr next : Word) :
    (ptr &&& 0xFF00) ||| (next &&& 0x00FF) = wordOf (loByte next) (hiByte ptr) :=
  BitVec.eq_of_getLsbD_eq fun i hi => by
    rw [getLsbD_wordOf]
    interval_cases i <;> simp [loByte, hiByte]

theorem pageWrap_succ (ptr : Word) :
    (ptr &&& 0xFF00) ||| ((ptr + 1) &&& 0x00FF) =
      BitVec.ofNat 16 (ptr.toNat / 256 * 256 + (ptr.toNat + 1) % 256) := by
  have whole := ptr.isLt
  have next : (ptr + 1).toNat = (ptr.toNat + 1) % 65536 := BitVec.toNat_add ptr 1
  apply BitVec.eq_of_toNat_eq
  rw [pageWrap_eq_wordOf, wordOf_toNat, loByte_toNat, hiByte_toNat, BitVec.toNat_ofNat, next]
  omega

theorem zext16_eq (zp : Byte) : zext16 zp = BitVec.ofNat 16 zp.toNat := (BitVec.ofNat_toNat 16 zp).symm

theorem zext16_succ (zp : Byte) : zext16 (zp + 1) = BitVec.ofNat 16 ((zp.toNat + 1) % 256) := by
  rw [zext16_eq, BitVec.toNat_add]
  rfl

/-! The image of a load. -/

/-- The address of byte `i` of an image (R83), mod 65536. -/
theorem imageAddr_toNat (origin : Word) (i : Nat) :
    (origin + BitVec.ofNat 16 i).toNat = (origin.toNat + i) % 65536 := by
  simp [BitVec.toNat_add]

theorem ofNat_imageAddr (origin : Word) (i : Nat) :
    BitVec.ofNat 16 (origin.toNat + i) = origin + BitVec.ofNat 16 i := by
  rw [BitVec.ofNat_add, BitVec.ofNat_toNat, BitVec.setWidth_eq]

/-- The bytes after the first are an image of their own, one address further on. -/
theorem imageAddr_succ (origin : Word) (i : Nat) :
    origin + BitVec.ofNat 16 (i + 1) = origin + 1 + BitVec.ofNat 16 i := by
  rw [Nat.add_comm, BitVec.ofNat_add, BitVec.add_assoc]
  rfl

/-- R83: an address that holds no byte of the image reads as before. -/
theorem State.read8_storeBytes_outside (bytes : List Byte) (s : State) {origin a : Word}
    (outside : ∀ i < bytes.length, origin + BitVec.ofNat 16 i ≠ a) :
    (s.storeBytes origin bytes).read8 a = s.read8 a := by
  induction bytes generalizing s origin with
  | nil => rfl
  | cons b bytes ih =>
    have first : a ≠ origin := by simpa using (outside 0 (by simp)).symm
    have rest (i : Nat) (hi : i < bytes.length) : origin + 1 + BitVec.ofNat 16 i ≠ a := by
      rw [← imageAddr_succ]
      exact outside (i + 1) (by simpa using hi)
    rw [State.storeBytes, ih _ rest, State.read8_write8, if_neg first]

/-- R83, D28: the last byte of the image that falls on an address is the one it holds. -/
theorem State.read8_storeBytes_last {bytes : List Byte} (s : State) {origin : Word} {i : Nat} (hi : i < bytes.length)
    (last : ∀ j, i < j → j < bytes.length → origin + BitVec.ofNat 16 j ≠ origin + BitVec.ofNat 16 i) :
    (s.storeBytes origin bytes).read8 (origin + BitVec.ofNat 16 i) = bytes[i] := by
  induction bytes generalizing s origin i with
  | nil => exact absurd hi (Nat.not_lt_zero i)
  | cons b bytes ih =>
    rw [State.storeBytes]
    cases i with
    | zero =>
      have rest (j : Nat) (hj : j < bytes.length) : origin + 1 + BitVec.ofNat 16 j ≠ origin + BitVec.ofNat 16 0 := by
        rw [← imageAddr_succ]
        exact last (j + 1) (Nat.succ_pos j) (by simpa using hj)
      rw [State.read8_storeBytes_outside bytes _ rest, State.read8_write8, if_pos (by simp)]
      rfl
    | succ i =>
      rw [imageAddr_succ]
      refine ih _ (by simpa using hi) fun j hij hj => ?_
      rw [← imageAddr_succ, ← imageAddr_succ]
      exact last (j + 1) (by omega) (by simpa using hj)

end Sys2Proof.Machine

namespace Sys2Proof.Proofs

open Sys2Proof.Machine Sys2Proof.Claims

/-- Settles O22: an effect that keeps memory whole changes no byte. -/
theorem memoryChangesOnlyByItsWriters : Obligations.MemoryChangesOnlyByItsWriters := by
  intro i s t addr run changed
  obtain ⟨u, n, rfl, eff⟩ := effect_of_exec run
  exact eff.memory.resolve_left fun same => changed (State.read8_congr (s := u.addCycles n) same addr)

/-- Settles O23: each read is two bytes, the second at an address that wraps in its own way. -/
theorem pointerReadsWrapAsStated : Obligations.PointerReadsWrapAsStated := by
  refine fun s addr zp => ⟨?_, ?_, ?_⟩
  · rw [State.read16_toNat, word_succ]
  · rw [State.readPtrBug, wordOf_toNat, pageWrap_succ]
  · rw [State.readPtrZP, wordOf_toNat, zext16_succ, zext16_eq]

/-- Settles O58: the load stores the bytes one after the other and changes memory alone. -/
theorem hostLoadStoresTheImage : Obligations.HostLoadStoresTheImage := by
  intro bytes origin s
  refine ⟨s.storeBytes origin bytes, rfl, fun i hi last => ?_, fun a outside => ?_, rfl, ?_⟩
  · rw [ofNat_imageAddr]
    refine State.read8_storeBytes_last s hi fun j hij hj same => last j hij hj ?_
    rw [← imageAddr_toNat, ← imageAddr_toNat, same]
  · refine State.read8_storeBytes_outside bytes s fun i hi same => outside i hi ?_
    rw [← imageAddr_toNat, same]
  · rw [State.storeBytes_frame]
    exact ⟨⟨rfl, rfl, rfl, rfl⟩, rfl, rfl, rfl, rfl, rfl, rfl, rfl, rfl⟩

end Sys2Proof.Proofs
end

section
/-! The stack: subroutines and the round trips of its pushes and pulls. -/

namespace Sys2Proof.Machine

/-! R70: the two bytes of a pushed word, and the others. -/

theorem read8_pushWord_high (s : State) (w : Word) : (s.pushWord w).read8 (stackAddr s.sp) = hiByte w := by
  obtain ⟨distinct, -, -⟩ := stackAddr_frame_ne s.sp
  rw [State.read8_pushWord, if_neg distinct, if_pos rfl]

theorem read8_pushWord_low (s : State) (w : Word) : (s.pushWord w).read8 (stackAddr (s.sp - 1)) = loByte w := by
  rw [State.read8_pushWord, if_pos rfl]

theorem read8_pushWord_outside {s : State} {w a : Word} (high : a ≠ stackAddr s.sp) (low : a ≠ stackAddr (s.sp - 1)) :
    (s.pushWord w).read8 a = s.read8 a := by
  rw [State.read8_pushWord, if_neg low, if_neg high]

/-- R220, D9, D25: `PC` after the fetch of a JSR, less 1, is the address of its last byte. -/
theorem jsrReturn_toNat (s : State) : ((s.advance 3).pc - 1).toNat = (s.pc.toNat + 2) % 65536 := by
  rw [State.advance_pc]
  bv_omega

@[simp] theorem handleRts_pc (s : State) :
    (handleRts s).pc = wordOf (s.read8 (stackAddr (s.sp + 1))) (s.read8 (stackAddr (s.sp + 2))) + 1 := by
  simp [handleRts]

@[simp] theorem handleRts_sp (s : State) : (handleRts s).sp = s.sp + 2 := by simp [handleRts]

/-- R68, R69: a pull undoes a push, whatever has changed in between but `SP` and memory. -/
theorem pull_of_push {s t : State} {v : Byte} (mem : t.mem = (s.push v).mem) (sp : t.sp = (s.push v).sp) :
    t.pull.1 = v ∧ t.pull.2.sp = s.sp := by
  have back : t.sp + 1 = s.sp := by rw [sp, State.push_sp, BitVec.sub_add_cancel]
  refine ⟨?_, by rw [State.pull_sp, back]⟩
  rw [State.pull_fst, back, State.read8_congr mem, State.read8_push, if_pos rfl]

end Sys2Proof.Machine

namespace Sys2Proof.Proofs

open Sys2Proof.Machine Sys2Proof.Claims

/-- Settles O46: the two pushes write two distinct addresses, and the jump none. -/
theorem jsrPushesReturnAddress : Obligations.JsrPushesReturnAddress := by
  intro w s
  refine ⟨rfl, _, exec_jsr w s, by simp [SameControl], by simp [Regs], by simp, by simp, by simp, ?_⟩
  simp only [State.read8_addCycles, State.read8_setPC]
  refine ⟨?_, ?_, fun a => read8_pushWord_outside⟩
  · rw [← jsrReturn_toNat, ← hiByte_toNat]
    exact congrArg BitVec.toNat (read8_pushWord_high (s.advance 3) _)
  · rw [← jsrReturn_toNat, ← loByte_toNat]
    exact congrArg BitVec.toNat (read8_pushWord_low (s.advance 3) _)

/-- Settles O47: the pulled word is two bytes of the stack, and nothing is written. -/
theorem rtsPullsReturnAddress : Obligations.RtsPullsReturnAddress := by
  refine fun s => ⟨rfl, _, exec_rts s, ?_⟩
  refine ⟨⟨rfl, rfl, rfl, rfl, rfl⟩, fun _ => rfl, ⟨rfl, rfl, rfl, handleRts_sp _⟩, rfl, rfl, ?_⟩
  rw [State.addCycles_pc, handleRts_pc, BitVec.toNat_add, wordOf_toNat]
  rfl

/-- Settles O48: RTS pulls the two bytes that JSR pushed, from where `SP` then points. -/
theorem rtsUndoesJsr : Obligations.RtsUndoesJsr := by
  intro w s t u jsr rts
  obtain ⟨-, t', jsr', -, ⟨ta, tx, ty, tsp⟩, tp, -, -, high, low, -⟩ := jsrPushesReturnAddress w s
  obtain ⟨-, u', rts', -, -, ⟨ua, ux, uy, usp⟩, up, -, upc⟩ := rtsPullsReturnAddress t
  cases jsr.symm.trans jsr'
  cases rts.symm.trans rts'
  have sp1 : t.sp + 1 = s.sp - 1 := by rw [tsp]; bv_omega
  have sp2 : t.sp + 2 = s.sp := by rw [tsp, BitVec.sub_add_cancel]
  refine ⟨?_, ⟨ua.trans ta, ux.trans tx, uy.trans ty, usp.trans sp2⟩, up.trans tp⟩
  rw [upc, sp1, sp2, high, low]
  omega

/-- Settles O54: the byte PLA pulls is the one PHA pushed. -/
theorem plaUndoesPha : Obligations.PlaUndoesPha := by
  intro s t u a p pha pla
  obtain rfl := implied_next (pha : implied 3 handlePha s = .next t)
  obtain rfl := implied_next (pla : implied 4 handlePla _ = .next u)
  exact pull_of_push (s := s) (v := s.a) rfl rfl

end Sys2Proof.Proofs
end

section
/-! Encoding. What the decoder reads and what the encoder writes are one relation: an opcode with a record, the operand
bytes that the record's format takes, and the instruction the format makes of them. -/

namespace Sys2Proof

open Sys2Proof.Machine Sys2Proof.Claims

/-- A format makes an instruction of its operand bytes (R90). -/
inductive Format.Makes : Format → List Byte → Instr → Prop
  | f1 (i : Instr) : Makes (.f1 i) [] i
  | f2 (make : Byte → Instr) (b : Byte) : Makes (.f2 make) [b] (make b)
  | f3 (make : Word → Instr) (w : Word) : Makes (.f3 make) [loByte w, hiByte w] (make w)

/-- R90, R91: the operands are read off the front of the bytes after the opcode. -/
theorem decodeOperands_eq_ok_iff {f : Format} {bytes rest : List Byte} {i : Instr} :
    decodeOperands f bytes = .ok (i, rest) ↔ ∃ operands, f.Makes operands i ∧ bytes = operands ++ rest := by
  constructor
  · intro h
    match f, bytes, h with
    | .f1 _, _, rfl => exact ⟨_, .f1 _, rfl⟩
    | .f2 make, b :: _, rfl => exact ⟨_, .f2 make b, rfl⟩
    | .f3 make, lo :: hi :: _, rfl => exact ⟨_, .f3 make (wordOf lo hi), by simp⟩
  · rintro ⟨_, made, rfl⟩
    cases made <;> simp [decodeOperands]

/-- R94: what decodes is an opcode with a record, then operands of its format. -/
theorem decode_eq_ok_iff {bytes rest : List Byte} {i : Instr} :
    decode bytes = .ok (i, rest) ↔
      ∃ op r operands, lookup op = some r ∧ r.format.Makes operands i ∧ bytes = op :: operands ++ rest := by
  cases bytes with
  | nil => simp [decode]
  | cons op tail => cases found : lookup op <;> simp [decode, found, decodeOperands_eq_ok_iff]

/-- R96: every instruction is made by the format of its opcode's record, from the operand bytes it is encoded with: none
(F1), two (F3), else one (F2). -/
theorem encode_makes (i : Instr) :
    ∃ op r operands, encode i = op :: operands ∧ lookup op = some r ∧ r.format.Makes operands i := by
  cases i with
  | tax | tay | txa | tya | tsx | txs | inx | iny | dex | dey | aslAcc | lsrAcc | rolAcc | rorAcc | rts | brk | rti
  | pha | php | pla | plp | clc | sec | cli | sei | cld | sed | clv | nop => exact ⟨_, _, _, rfl, rfl, .f1 _⟩
  | ldaAbs | ldaAbsY | ldaAbsX | ldxAbs | ldxAbsY | ldyAbs | ldyAbsX | staAbs | staAbsY | staAbsX | stxAbs | styAbs
  | adcAbs | adcAbsY | adcAbsX | sbcAbs | sbcAbsY | sbcAbsX | cmpAbs | cmpAbsY | cmpAbsX | cpxAbs | cpyAbs
  | incAbs | incAbsX | decAbs | decAbsX | andAbs | andAbsY | andAbsX | oraAbs | oraAbsY | oraAbsX
  | eorAbs | eorAbsY | eorAbsX | bitAbs | aslAbs | aslAbsX | lsrAbs | lsrAbsX | rolAbs | rolAbsX | rorAbs | rorAbsX
  | jmpAbs | jmpInd | jsr => exact ⟨_, _, _, rfl, rfl, .f3 _ _⟩
  | _ => exact ⟨_, _, _, rfl, rfl, .f2 _ _⟩

theorem decode_encode (i : Instr) (rest : List Byte) : decode (encode i ++ rest) = .ok (i, rest) := by
  obtain ⟨op, r, operands, bytes, found, made⟩ := encode_makes i
  exact decode_eq_ok_iff.mpr ⟨op, r, operands, found, made, by rw [bytes]⟩

/-- What a format makes is encoded with this opcode, then the operand bytes it was made of. -/
def Format.EncodesAs (op : Byte) : Format → Prop
  | .f1 i => encode i = [op]
  | .f2 make => ∀ b, encode (make b) = [op, b]
  | .f3 make => ∀ w, encode (make w) = [op, loByte w, hiByte w]

theorem Format.EncodesAs.encode_eq {op : Byte} {f : Format} {operands : List Byte} {i : Instr} (h : f.EncodesAs op)
    (made : f.Makes operands i) : encode i = op :: operands := by
  cases made with
  | f1 i => exact h
  | f2 make b => exact h b
  | f3 make w => exact h w

/-- R96: each cell of the opcode map makes instructions that are encoded with the opcode of its place. The places are
followed row by row, and each cell of a row is one equation of `encode`. -/
theorem encodesAs_of_mem_opcodeMap :
    ∀ cell ∈ opcodeMap.zipIdx, ∀ r ∈ cell.1, r.format.EncodesAs (BitVec.ofNat 8 cell.2) := by
  simp only [opcodeMap, List.zipIdx_append, List.forall_mem_append]
  and_intros
  all_goals
    simp only [opcodeRow0, opcodeRow1, opcodeRow2, opcodeRow3, opcodeRow4, opcodeRow5, opcodeRow6, opcodeRow7,
      opcodeRow8, opcodeRow9, opcodeRowA, opcodeRowB, opcodeRowC, opcodeRowD, opcodeRowE, opcodeRowF,
      List.length_append, List.length_cons, List.length_nil, List.zipIdx_cons, List.zipIdx_nil, List.forall_mem_cons,
      List.not_mem_nil, Option.mem_def, Option.some.injEq, forall_eq', reduceCtorEq, IsEmpty.forall_iff, implies_true,
      true_and, and_true, Format.EncodesAs]
    and_intros <;> intros <;> rfl

theorem encodesAs_of_lookup {op : Byte} {r : Record} (h : lookup op = some r) : r.format.EncodesAs op := by
  unfold lookup at h
  split at h
  next cell at_op =>
    subst h
    simpa using encodesAs_of_mem_opcodeMap _ (List.mk_mem_zipIdx_iff_getElem?.mpr at_op) r rfl
  next => cases h

/-- R97: the opcodes without a record are those listed. -/
theorem lookup_eq_none_iff {op : Byte} : lookup op = none ↔ op ∈ undefinedOpcodes := by
  have all : ∀ op : Byte, lookup op = none → op ∈ undefinedOpcodes := by decide
  exact ⟨all op, lookup_of_undefined op⟩

/-- R99: after an opcode with a record every two bytes are accepted, and assembled as its format says. -/
theorem decode_of_lookup {op : Byte} {r : Record} (found : lookup op = some r) (b1 b2 : Byte) :
    ∃ rest, decode [op, b1, b2] = .ok (r.format.assemble b1 b2, rest) := by
  cases form : r.format <;> simp [decode, found, form, decodeOperands, Format.assemble]

theorem wordOf_eq_append (lo hi : Byte) : wordOf lo hi = hi ++ lo := by
  refine BitVec.eq_of_getLsbD_eq fun k _ => ?_
  rw [getLsbD_wordOf, BitVec.getLsbD_append]

end Sys2Proof

namespace Sys2Proof.Machine

open Sys2Proof.Claims

/-- R92, R93: the fetch is the decoder on the three bytes at `PC`. -/
theorem fetch_of_decode {s : State} {i : Instr} {rest : List Byte}
    (h : decode [s.read8 s.pc, s.read8 (s.pc + 1), s.read8 (s.pc + 2)] = .ok (i, rest)) : fetch s = .ok i := by
  cases found : lookup (s.read8 s.pc) with
  | none => simp [decode, found] at h
  | some r =>
    obtain ⟨rest', decoded⟩ := decode_of_lookup found (s.read8 (s.pc + 1)) (s.read8 (s.pc + 2))
    cases decoded.symm.trans h
    simp [fetch_eq, found]

end Sys2Proof.Machine
end

section
/-! The obligations about encoding, and the step that runs what the decoder reads. -/

namespace Sys2Proof.Proofs

open Sys2Proof.Machine Sys2Proof.Claims

/-- Settles O1: the operand bytes of the encoding are those the format of its opcode reads. -/
theorem decodeOfEncode : Obligations.DecodeOfEncode := decode_encode

/-- Settles O2: the cell the decoder looked up makes only instructions that are encoded with its opcode. -/
theorem encodeOfDecode : Obligations.EncodeOfDecode := by
  intro bytes rest i h
  obtain ⟨op, r, operands, found, made, split⟩ := decode_eq_ok_iff.mp h
  rw [split, (encodesAs_of_lookup found).encode_eq made]

/-- Settles O3: the listed opcodes are those without a record, and a record's format takes any two bytes. -/
theorem exactlyTheListedOpcodesAreUndefined : Obligations.ExactlyTheListedOpcodesAreUndefined := by
  refine fun op b1 b2 => ⟨fun listed => ?_, fun unlisted => ?_⟩
  · simp [decode, lookup_of_undefined op listed]
  · have defined : lookup op ≠ none := mt lookup_eq_none_iff.mp unlisted
    obtain ⟨r, found⟩ := Option.ne_none_iff_exists'.mp defined
    exact ⟨_, decode_of_lookup found b1 b2⟩

/-- Settles O4: each word by the opcode map. -/
theorem knownWordsDecode : Obligations.KnownWordsDecode := by
  intro b lo hi rest
  simp only [← wordOf_eq_append]
  exact ⟨rfl, rfl, rfl, rfl, rfl, rfl, rfl, rfl⟩

/-- Settles O5: what the bytes decode to is what the step fetches. -/
theorem stepRunsDecodedInstruction : Obligations.StepRunsDecodedInstruction :=
  fun _ _ _ fetches decoded =>
    step_of_fetch_ok fetches.1 (boundaryEvent_of_fetches fetches) (fetch_of_decode decoded)

end Sys2Proof.Proofs
end

section
/-! The step: the interrupts it serves, and the cycles it returns. -/

namespace Sys2Proof.Machine

open Sys2Proof.Claims

/-- R37: the byte IRQ and NMI push is `P` with bit 4 clear and bit 5 set. -/
theorem pushedP_false (p : Byte) : pushedP false p = (p ||| 0x20) &&& 0xEF := rfl

/-- R261, R267, R269: what serving an IRQ or an NMI makes of the stack, the registers, the flags, `PC` and the
cycles. -/
theorem serviced_interrupt (s : State) {kind : InterruptKind} (hardware : kind ≠ .brk) :
    let t := (s.takeInterrupt kind).addCycles interruptCycles
    PushedFrame s t s.pc ((s.p ||| 0x20) &&& 0xEF) ∧ Regs t s.a s.x s.y (s.sp - 3) ∧
      flagsOf t.p = { flagsOf s.p with i := true } ∧
      t.pc.toNat = (s.read8 (interruptVector kind)).toNat + 256 * (s.read8 (interruptVector kind + 1)).toNat ∧
      t.cycles = s.cycles + 7 := by
  refine ⟨?_, by simp [Regs], ?_, ?_, by simp [interruptCycles]⟩
  · have pushed : (kind == .brk) = false := by simp [hardware]
    rw [← pushedP_false, ← pushed]
    exact pushedFrame_addCycles (takeInterrupt_pushedFrame s kind) _
  · rw [State.addCycles_p, State.takeInterrupt_p, flagsOf_putFlag_i]
  · rw [State.addCycles_pc, State.takeInterrupt_pc, State.read16_toNat]

/-- R92, R320: an instruction's cycles follow its record (R95), whatever its form. -/
theorem ExecForm.cycles_bounds {i : Instr} {r : Record} (form : ExecForm i r) {s t : State}
    (h : exec i s = .next t) :
    s.cycles + r.baseCycles ≤ t.cycles ∧
      t.cycles ≤ s.cycles + r.baseCycles + (if r.pageCrossExtra then 1 else 0) +
        (if r.mode = .relative then 2 else 0) := by
  have costs := cost_bounds r.baseCycles r.pageCrossExtra
  cases form with
  | @reading _ o handler run =>
    obtain rfl := reading_next ((run s).symm.trans h)
    obtain ⟨-, cycles, -⟩ := handler.frame (o.value s) (s.advance (1 + o.bytes))
    specialize costs (o.crossed s)
    rw [State.addCycles_cycles, cycles, State.advance_cycles]
    omega
  | @storing _ m _ run =>
    obtain rfl := storing_next ((run s).symm.trans h)
    specialize costs (resolve m s).pageCrossed
    simp only [State.addCycles_cycles, State.write8_cycles, State.advance_cycles]
    omega
  | @modifying alu l _ _ run =>
    obtain rfl := modifying_next ((run s).symm.trans h)
    obtain ⟨-, -, -, -, -, -, -, cycles, -⟩ :=
      l.store_frame s (alu s.p (l.value s)).2 (s.advance (1 + l.bytes))
    specialize costs (l.crossed s)
    rw [State.addCycles_cycles, State.setP_cycles, cycles, State.advance_cycles]
    omega
  | implied handler run =>
    obtain rfl := implied_next ((run s).symm.trans h)
    rw [State.addCycles_cycles, (handler.frame _).2, State.advance_cycles]
    omega
  | branching rel run =>
    rw [if_pos rel]
    obtain ⟨-, rfl⟩ | ⟨-, rfl⟩ := branching_next ((run s).symm.trans h)
    · simp only [State.addCycles_cycles, State.setPC_cycles]
      split <;> omega
    · simp only [State.addCycles_cycles, State.advance_cycles]
      omega
  | jmpAbs _ run | jmpInd _ run | jsr _ run | brk _ run =>
    cases (run s).symm.trans h
    simp
    omega

/-- R92: what a step does to the engine and the cycles: it adds 2 to 7 and leaves the engine ready, or it meets the halt
request, or it faults. -/
theorem step_cycles_cases {s t : State} (h : step s = .next t) :
    (t.engine = .ready ∧ s.cycles + 2 ≤ t.cycles ∧ t.cycles ≤ s.cycles + 7) ∨
      (s.haltRequest = true ∧ t = s.enterHalted) ∨ t = s.enterFaulted (s.read8 s.pc) := by
  obtain ⟨ready, event | ⟨-, -, rfl⟩ | ⟨-, i, -, run⟩⟩ := step_cases h
  · obtain ⟨halt, rfl⟩ | ⟨-, -, rfl⟩ | ⟨-, -, -, -, rfl⟩ := boundaryEvent_cases event
    · exact .inr (.inl ⟨halt, rfl⟩)
    · exact .inl (by simp [State.serviceNmi, interruptCycles, ready])
    · exact .inl (by simp [State.serviceIrq, interruptCycles, ready])
  · exact .inr (.inr rfl)
  · obtain ⟨u, run', ⟨engine, -⟩, bounds⟩ := Proofs.everyInstructionCompletes i s
    cases run.symm.trans run'
    exact .inl ⟨engine.trans ready, bounds⟩

theorem stepReturn_of_ready {s t : State} (h : t.engine = .ready) :
    stepReturn s t = .cycles (t.cycles - s.cycles) := by
  simp [stepReturn, h]

end Sys2Proof.Machine

namespace Sys2Proof.Proofs

open Sys2Proof.Machine Sys2Proof.Claims

/-- Settles O7: each of the three ends of a step, read off the state it leaves. -/
theorem stepReturnsItsCycles : Obligations.StepReturnsItsCycles := by
  intro s t h
  obtain ⟨ready, low, high⟩ | ⟨halt, rfl⟩ | rfl := step_cycles_cases h
  · rw [stepReturn_of_ready ready]
    exact ⟨ready, by omega, by omega, by omega⟩
  · exact ⟨rfl, rfl, halt⟩
  · exact ⟨rfl, rfl, rfl⟩

/-- Settles O10: the NMI is the event of the boundary, and it is served as every hardware interrupt is. -/
theorem stepServicesNmi : Obligations.StepServicesNmi := by
  intro s ready halt nmi
  obtain ⟨frame, regs, flags, pc, cycles⟩ := serviced_interrupt (s.setNmiPending false) (kind := .nmi) (by decide)
  have event : boundaryEvent s = some s.serviceNmi := by simp [boundaryEvent, halt, nmi]
  exact ⟨_, step_of_boundaryEvent ready event, frame, regs, flags, pc, cycles, by simp [State.serviceNmi, ready, halt]⟩

/-- Settles O11: the IRQ is the event of the boundary, and it is served as every hardware interrupt is. -/
theorem stepServicesIrq : Obligations.StepServicesIrq := by
  intro s ready halt nmi line unmasked
  obtain ⟨frame, regs, flags, pc, cycles⟩ := serviced_interrupt s (kind := .irq) (by decide)
  have enabled : getFlag s.p .i = false := unmasked
  have event : boundaryEvent s = some s.serviceIrq := by simp [boundaryEvent, halt, nmi, line, enabled]
  exact ⟨_, step_of_boundaryEvent ready event, frame, regs, flags, pc, cycles, by simp [State.serviceIrq, SameControl]⟩

/-- Settles O15: every instruction has a record and one of the forms. -/
theorem cyclesFollowTheTable : Obligations.CyclesFollowTheTable := by
  intro i s t h
  obtain ⟨r, found, form⟩ := exec_form i
  exact ⟨r, found, form.cycles_bounds h⟩

end Sys2Proof.Proofs
end

section
/-! The addressing modes: the resolved addresses in plain arithmetic, and the page-cross report. -/

namespace Sys2Proof.Machine

theorem zext16_toNat (b : Byte) : (zext16 b).toNat = b.toNat :=
  BitVec.toNat_setWidth_of_le (by decide)

/-- R13: masking an address keeps its page number and clears the low byte. -/
theorem pageMask_eq_wordOf (a : Word) : a &&& 0xFF00 = wordOf 0 (hiByte a) := by
  simpa [loByte] using pageWrap_eq_wordOf a 0

/-- R135: two addresses lie in different pages exactly when their page numbers differ. -/
theorem pagesDiffer_eq_decide (a b : Word) : pagesDiffer a b = decide (a.toNat / 256 ≠ b.toNat / 256) := by
  have samePage : a &&& 0xFF00 = b &&& 0xFF00 ↔ a.toNat / 256 = b.toNat / 256 := by
    rw [pageMask_eq_wordOf, pageMask_eq_wordOf, ← BitVec.toNat_inj, wordOf_toNat, wordOf_toNat, hiByte_toNat,
      hiByte_toNat]
    omega
  rw [pagesDiffer, Bool.eq_iff_iff, bne_iff_ne, decide_eq_true_iff]
  exact not_congr samePage

/-- R130, R131, R134: the index is added mod 65536. -/
theorem indexed_ea_toNat (base : Word) (index : Byte) :
    (indexed base index).ea.toNat = (base.toNat + index.toNat) % 65536 := by
  rw [indexed, BitVec.toNat_add, zext16_toNat]

/-- R130, R131, R134, R135: an indexed address reports a crossing when the sum lies in another page than the base. -/
theorem indexed_pageCrossed (base : Word) (index : Byte) :
    (indexed base index).pageCrossed =
      decide ((base.toNat + index.toNat) % 65536 / 256 ≠ base.toNat / 256) := by
  rw [← indexed_ea_toNat]
  exact pagesDiffer_eq_decide _ base

/-- R126, R127: the index is added mod 256, within the zero page. -/
theorem zext16_add_toNat (b index : Byte) : (zext16 (b + index)).toNat = (b.toNat + index.toNat) % 256 := by
  rw [zext16_toNat, BitVec.toNat_add]

end Sys2Proof.Machine

namespace Sys2Proof.Proofs

open Sys2Proof.Machine

/-- Settles O24: the index is added to the zero-page byte mod 256, before it becomes an address or a pointer. -/
theorem zeroPageModesResolve : Obligations.ZeroPageModesResolve := by
  intro s b
  obtain ⟨-, -, pointer⟩ := pointerReadsWrapAsStated s 0 (b + s.x)
  rw [BitVec.toNat_add, Nat.mod_add_mod] at pointer
  exact ⟨zext16_toNat b, zext16_add_toNat b s.x, zext16_add_toNat b s.y, pointer, rfl, rfl, rfl, rfl⟩

/-- Settles O25: the indexed modes differ only in the base and the index. -/
theorem absoluteModesResolve : Obligations.AbsoluteModesResolve :=
  fun s w b =>
    ⟨rfl, rfl, indexed_ea_toNat w s.x, indexed_pageCrossed w s.x, indexed_ea_toNat w s.y, indexed_pageCrossed w s.y,
      indexed_ea_toNat (s.readPtrZP b) s.y, indexed_pageCrossed (s.readPtrZP b) s.y⟩

end Sys2Proof.Proofs
end

section
/-! How a form runs: the state its shape answers, seen through `PC`, the cycles, the bookkeeping and the flags. -/

namespace Sys2Proof.Machine

/-- R24: an instruction that reads an operand moves `PC` past itself only. -/
theorem ReadHandler.pc {m : String} {h : Byte → State → State} (H : ReadHandler m h) (v : Byte) (s : State) :
    (h v s).pc = s.pc := by
  cases H <;> rfl

end Sys2Proof.Machine

namespace Sys2Proof.Claims

open Sys2Proof.Machine

theorem cyclesOf_eq_cost (base : Nat) (extra crossed : Bool) : cyclesOf base extra crossed = cost base extra crossed := by
  cases extra <;> cases crossed <;> rfl

/-- R29: Z and N from the value written, every other flag as before. -/
theorem flagsOf_setZN (v p : Byte) : flagsOf (setZN v p) = znOf (flagsOf p) v.toNat := by
  have bits := getFlag_setZN v p
  have zero : (v == 0x00) = decide (v.toNat = 0) := by
    rw [Bool.eq_iff_iff, beq_iff_eq, decide_eq_true_iff, ← BitVec.toNat_inj]
    rfl
  have negative : v.getLsbD 7 = decide (128 ≤ v.toNat) :=
    v.msb_eq_getLsbD_last.symm.trans v.msb_eq_decide
  simp only [flagsOf, znOf, Flags.mk.injEq]
  exact ⟨(bits .n).trans negative, bits .v, bits .u, bits .b, bits .d, bits .i, (bits .z).trans zero, bits .c⟩

/-- R92, R320: an instruction runs when, before its cycles are accounted, it has moved `PC` past itself and kept the
bookkeeping. -/
theorem runs_of_exec {op : Byte} {i : Instr} {len n : Nat} {s u : State} {post : State → Prop}
    (opcode : (encode i).head? = some op) (length : (encode i).length = len)
    (run : exec i s = .next (u.addCycles n)) (pc : u.pc = (s.advance len).pc) (control : SameControl s u)
    (cycles : u.cycles = s.cycles) (holds : post (u.addCycles n)) : Runs op i len n s post := by
  refine ⟨opcode, length, _, run, ⟨?_, ?_⟩, control, holds⟩
  · rw [State.addCycles_pc, pc, State.advance_pc_toNat]
  · rw [State.addCycles_cycles, cycles]

/-- A reading form is encoded as it says, and is the reading shape with this handler (R121). -/
structure ReadForm.Implements (f : ReadForm) (handler : Byte → State → State) : Prop where
  opcode : (encode f.instr).head? = some f.opcode
  length : (encode f.instr).length = 1 + f.operand.bytes
  run : ∀ s, exec f.instr s = reading f.operand f.base f.extra handler s

/-- R121, R320: a reading form runs, with what its handler makes of the operand and the state past the instruction. -/
theorem ReadForm.Implements.runs {f : ReadForm} {m : String} {handler : Byte → State → State}
    (form : f.Implements handler) (H : ReadHandler m handler) {s : State} {post : State → Prop}
    (holds : ∀ n, post ((handler (f.operand.value s) (s.advance (1 + f.operand.bytes))).addCycles n)) :
    f.Runs s post := by
  obtain ⟨control, cycles, -, -⟩ := H.frame (f.operand.value s) (s.advance (1 + f.operand.bytes))
  rw [ReadForm.Runs, cyclesOf_eq_cost]
  exact runs_of_exec form.opcode form.length (form.run s) (H.pc _ _) control cycles (holds _)

/-- A storing form is encoded as it says, and stores what `source` reads of the state before it (R121). -/
structure StoreForm.Implements (f : StoreForm) (source : State → Byte) : Prop where
  opcode : (encode f.instr).head? = some f.opcode
  length : (encode f.instr).length = 1 + f.mode.bytes
  run : ∀ s, exec f.instr s = storing f.mode f.base f.extra (source s) s

/-- R153-R155: a storing form writes its source at the resolved address and nothing else. -/
theorem StoreForm.Implements.runs {f : StoreForm} {source : State → Byte} (form : f.Implements source) (s : State) :
    f.Runs s fun t =>
      t.read8 (resolve f.mode s).ea = source s ∧ SameMemoryBut s t (resolve f.mode s).ea ∧
        Regs t s.a s.x s.y s.sp ∧ t.p = s.p := by
  rw [StoreForm.Runs, cyclesOf_eq_cost]
  refine runs_of_exec form.opcode form.length (form.run s) rfl ⟨rfl, rfl, rfl, rfl, rfl⟩ rfl
    ⟨?_, fun addr other => ?_, ⟨rfl, rfl, rfl, rfl⟩, rfl⟩
  · rw [State.read8_addCycles, State.read8_write8, if_pos rfl]
  · rw [State.read8_addCycles, State.read8_write8, if_neg other, State.read8_advance]

/-- R122: a one-byte instruction that is no return runs, with what its handler makes of the state past it. -/
theorem runs_implied {op : Byte} {i : Instr} {m : String} {handler : State → State} {base : Nat} {s : State}
    {post : State → Prop} (H : ImpliedHandler m handler) (bytes : encode i = [op])
    (run : exec i s = implied base handler s) (pc : (handler (s.advance 1)).pc = (s.advance 1).pc)
    (holds : post ((handler (s.advance 1)).addCycles base)) : Runs op i 1 base s post := by
  obtain ⟨control, cycles⟩ := H.frame (s.advance 1)
  exact runs_of_exec (by rw [bytes]; rfl) (by rw [bytes]; rfl) run pc control cycles holds

end Sys2Proof.Claims
end

section
/-! Loads, stores and transfers: the handler of each form, and what it leaves. -/

namespace Sys2Proof.Claims

open Sys2Proof.Machine

/-- R150-R152: each form of a load is the reading shape with the load's handler. -/
theorem loadForms_implement (b : Byte) (w : Word) :
    (∀ f ∈ ldaForms b w, f.Implements handleLda) ∧ (∀ f ∈ ldxForms b w, f.Implements handleLdx) ∧
      ∀ f ∈ ldyForms b w, f.Implements handleLdy := by
  simp only [ldaForms, ldxForms, ldyForms, List.forall_mem_cons, List.not_mem_nil, IsEmpty.forall_iff, implies_true,
    and_true]
  and_intros <;> exact ⟨rfl, rfl, fun _ => rfl⟩

/-- R153-R155: each form of a store is the storing shape with the store's register. -/
theorem storeForms_implement (b : Byte) (w : Word) :
    (∀ f ∈ staForms b w, f.Implements State.a) ∧ (∀ f ∈ stxForms b w, f.Implements State.x) ∧
      ∀ f ∈ styForms b w, f.Implements State.y := by
  simp only [staForms, stxForms, styForms, List.forall_mem_cons, List.not_mem_nil, IsEmpty.forall_iff, implies_true,
    and_true]
  and_intros <;> exact ⟨rfl, rfl, fun _ => rfl⟩

end Sys2Proof.Claims

namespace Sys2Proof.Proofs

open Sys2Proof.Machine Sys2Proof.Claims

/-- Settles O26: every form is the reading shape with `handleLda`, which writes `A` and, by `setZN`, Z and N. -/
theorem ldaLoadsAccumulator : Obligations.LdaLoadsAccumulator := by
  intro b w s f mem
  obtain ⟨lda, -, -⟩ := loadForms_implement b w
  exact (lda f mem).runs .lda fun _ => ⟨⟨rfl, rfl, rfl, rfl⟩, fun _ => rfl, flagsOf_setZN _ _⟩

/-- Settles O27: every form is the reading shape with `handleLdx`, which writes `X` and, by `setZN`, Z and N. -/
theorem ldxLoadsX : Obligations.LdxLoadsX := by
  intro b w s f mem
  obtain ⟨-, ldx, -⟩ := loadForms_implement b w
  exact (ldx f mem).runs .ldx fun _ => ⟨⟨rfl, rfl, rfl, rfl⟩, fun _ => rfl, flagsOf_setZN _ _⟩

/-- Settles O28: every form is the reading shape with `handleLdy`, which writes `Y` and, by `setZN`, Z and N. -/
theorem ldyLoadsY : Obligations.LdyLoadsY := by
  intro b w s f mem
  obtain ⟨-, -, ldy⟩ := loadForms_implement b w
  exact (ldy f mem).runs .ldy fun _ => ⟨⟨rfl, rfl, rfl, rfl⟩, fun _ => rfl, flagsOf_setZN _ _⟩

/-- Settles O29: the forms differ only in the mode and the register they store. -/
theorem storesWriteTheirRegister : Obligations.StoresWriteTheirRegister := by
  intro b w s
  obtain ⟨sta, stx, sty⟩ := storeForms_implement b w
  exact ⟨fun f mem => (sta f mem).runs s, fun f mem => (stx f mem).runs s, fun f mem => (sty f mem).runs s⟩

/-- Settles O30: each handler copies one register; all but TXS then run `setZN`. -/
theorem transfersCopyRegisters : Obligations.TransfersCopyRegisters := by
  refine fun s => ⟨runs_implied .tax rfl rfl rfl ?_, runs_implied .tay rfl rfl rfl ?_, runs_implied .txa rfl rfl rfl ?_,
    runs_implied .tya rfl rfl rfl ?_, runs_implied .tsx rfl rfl rfl ?_, runs_implied .txs rfl rfl rfl ?_⟩
  case refine_6 => exact ⟨⟨rfl, rfl, rfl, rfl⟩, fun _ => rfl, rfl⟩
  all_goals exact ⟨⟨rfl, rfl, rfl, rfl⟩, fun _ => rfl, flagsOf_setZN _ _⟩

end Sys2Proof.Proofs
end

section
/-! How a form that reads a location and writes it back runs. -/

namespace Sys2Proof.Claims

open Sys2Proof.Machine

/-- A modifying form is encoded as it says, and is the modifying shape with this function (R121). -/
structure ModifyForm.Implements (f : ModifyForm) (alu : Byte → Byte → Byte × Byte) : Prop where
  opcode : (encode f.instr).head? = some f.opcode
  length : (encode f.instr).length = 1 + f.location.bytes
  run : ∀ s, exec f.instr s = modifying f.location f.base f.extra alu s

/-- R121: what a location holds after a store to it, and what the store leaves as before. -/
theorem stored_store (l : Location) (s : State) (v p : Byte) (len n : Nat) :
    Stored l s (((l.store s v (s.advance len)).setP p).addCycles n) v.toNat := by
  cases l with
  | accumulator => exact ⟨rfl, rfl, rfl, rfl, fun _ => rfl⟩
  | memory m =>
    refine ⟨rfl, rfl, rfl, rfl, congrArg BitVec.toNat ?_, fun addr other => ?_⟩
    · rw [State.read8_addCycles, State.read8_setP, Location.store_memory, State.read8_write8, if_pos rfl]
    · rw [State.read8_addCycles, State.read8_setP, Location.store_memory, State.read8_write8, if_neg other,
        State.read8_advance]

/-- R121, R320: a modifying form runs, with the result its function makes of the location stored there, and the flags
its function makes. -/
theorem ModifyForm.Implements.runs {f : ModifyForm} {alu : Byte → Byte → Byte × Byte} (form : f.Implements alu)
    {s : State} {r : Nat} {flags : Flags} (result : (alu s.p (f.location.value s)).2.toNat = r)
    (status : flagsOf (alu s.p (f.location.value s)).1 = flags) :
    f.Runs s fun t => Stored f.location s t r ∧ flagsOf t.p = flags := by
  obtain ⟨-, -, -, pc, -, engine, fault, cycles, nmi, irq, halt⟩ :=
    f.location.store_frame s (alu s.p (f.location.value s)).2 (s.advance (1 + f.location.bytes))
  rw [ModifyForm.Runs, cyclesOf_eq_cost]
  exact runs_of_exec form.opcode form.length (form.run s) pc ⟨engine, fault, nmi, irq, halt⟩ cycles
    ⟨result ▸ stored_store _ _ _ _ _ _, status⟩

end Sys2Proof.Claims
end

section
/-! Arithmetic: sums, differences and comparisons of bytes, and the flags each of them sets. -/

namespace Sys2Proof.Claims

open Sys2Proof.Machine

/-! The flags of `P`, side by side. -/

/-- The flags with flag `f` holding `v`. -/
def putFlags (fl : Flags) (f : Flag) (v : Bool) : Flags :=
  match f with
  | .c => { fl with c := v }
  | .z => { fl with z := v }
  | .i => { fl with i := v }
  | .d => { fl with d := v }
  | .b => { fl with b := v }
  | .u => { fl with u := v }
  | .v => { fl with v := v }
  | .n => { fl with n := v }

theorem flagsOf_eq_getFlag (p : Byte) :
    flagsOf p = ⟨getFlag p .n, getFlag p .v, getFlag p .u, getFlag p .b, getFlag p .d, getFlag p .i, getFlag p .z,
      getFlag p .c⟩ := rfl

/-- R28: a write of one flag leaves the others as before. -/
theorem flagsOf_putFlag (p : Byte) (f : Flag) (v : Bool) : flagsOf (putFlag p f v) = putFlags (flagsOf p) f v := by
  cases f <;> simp [flagsOf_eq_getFlag, putFlags]

/-- R26: the writes of two flags commute. -/
theorem putFlag_comm (p : Byte) {f g : Flag} (ne : f ≠ g) (v w : Bool) :
    putFlag (putFlag p f v) g w = putFlag (putFlag p g w) f v := by
  refine eq_of_flags fun k => ?_
  simp only [getFlag_putFlag]
  split <;> split <;> simp_all

/-! Bit 7, the sign of a byte. -/

theorem getLsbD_seven (v : Byte) : v.getLsbD 7 = decide (128 ≤ v.toNat) :=
  v.msb_eq_getLsbD_last.symm.trans v.msb_eq_decide

theorem and_0x80_ne_zero_iff (v : Byte) : v &&& 0x80 ≠ 0 ↔ v.getLsbD 7 = true := by
  have mask : v &&& 0x80 = if v.getLsbD 7 then 0x80 else 0 := BitVec.and_twoPow v 7
  rw [mask]
  cases v.getLsbD 7 <;> decide

/-! R170: the sum with carry. -/

theorem aluAdc_toNat (p a m : Byte) : (aluAdc p a m).2.toNat = (a.toNat + m.toNat + (getFlag p .c).toNat) % 256 :=
  BitVec.toNat_ofNat _ _

/-- R170: the overflow formula says that the signed sum with carry leaves -128..127: both operands have the other sign
than the result. -/
theorem overflow_iff_signed_sum {a m r : Byte} {c : Bool} (sum : r.toNat = (a.toNat + m.toNat + c.toNat) % 256) :
    (a ^^^ r) &&& (m ^^^ r) &&& 0x80 ≠ 0 ↔
      signedValue a + signedValue m + (c.toNat : Int) < -128 ∨
        127 < signedValue a + signedValue m + (c.toNat : Int) := by
  have carry : c.toNat ≤ 1 := c.toNat_le
  have ha := a.isLt
  have hm := m.isLt
  rw [and_0x80_ne_zero_iff, BitVec.getLsbD_and, BitVec.getLsbD_xor, BitVec.getLsbD_xor, getLsbD_seven, getLsbD_seven,
    getLsbD_seven, signedValue, signedValue]
  simp only [Bool.and_eq_true, bne_iff_ne, ne_eq, decide_eq_decide]
  split <;> split <;> omega

theorem aluAdc_v (p a m : Byte) :
    (flagsOf (aluAdc p a m).1).v = ((a ^^^ (aluAdc p a m).2) &&& (m ^^^ (aluAdc p a m).2) &&& 0x80 != 0) := by
  rw [aluAdc, flagsOf_setZN, flagsOf_putFlag]
  rfl

theorem flagsOf_aluAdc (p a m : Byte) :
    flagsOf (aluAdc p a m).1 = { znOf (flagsOf p) (aluAdc p a m).2.toNat with
      c := decide (255 < a.toNat + m.toNat + (getFlag p .c).toNat)
      v := decide (signedValue a + signedValue m + ((getFlag p .c).toNat : Int) < -128 ∨
        127 < signedValue a + signedValue m + ((getFlag p .c).toNat : Int)) } := by
  have overflow := overflow_iff_signed_sum (aluAdc_toNat p a m)
  rw [← bne_iff_ne, ← aluAdc_v, ← decide_eq_true_iff (p := _ < _ ∨ _), ← Bool.eq_iff_iff] at overflow
  rw [← overflow, aluAdc, flagsOf_setZN, flagsOf_putFlag, flagsOf_putFlag]
  rfl

/-! R171: the difference with borrow, which is the sum with the complement. -/

theorem complement_toNat (m : Byte) : (m ^^^ 0xFF).toNat = 255 - m.toNat := by
  rw [show m ^^^ 0xFF = ~~~m from BitVec.xor_allOnes, BitVec.toNat_not]

theorem signedValue_complement (m : Byte) : signedValue (m ^^^ 0xFF) = -1 - signedValue m := by
  have hm := m.isLt
  rw [signedValue, signedValue, complement_toNat]
  split <;> split <;> omega

/-- R170, R171: the two overflow formulas agree: where the result differs in sign from `A`, the operand differs from `A`
exactly when its complement differs from the result. -/
theorem overflow_masks_eq (a m r : Byte) : (a ^^^ m) &&& (a ^^^ r) = (a ^^^ r) &&& ((m ^^^ 0xFF) ^^^ r) := by
  rw [show m ^^^ 0xFF = ~~~m from BitVec.xor_allOnes]
  ext i hi
  simp only [BitVec.getElem_and, BitVec.getElem_xor, BitVec.getElem_not]
  cases a[i] <;> cases m[i] <;> cases r[i] <;> rfl

theorem ofInt_sub_256 (t : Nat) : BitVec.ofInt 8 ((t : Int) - 256) = BitVec.ofNat 8 t := by
  apply BitVec.eq_of_toNat_eq
  rw [BitVec.toNat_ofInt, BitVec.toNat_ofNat]
  omega

theorem difference_eq_complement_sum (a m : Byte) (c : Nat) :
    (a.toNat : Int) - (m.toNat : Int) - (1 - (c : Int)) = ((a.toNat + (m ^^^ 0xFF).toNat + c : Nat) : Int) - 256 := by
  have hm := m.isLt
  rw [complement_toNat]
  omega

theorem noBorrow_iff_carry (t : Nat) : 0 ≤ (t : Int) - 256 ↔ 255 < t := by
  omega

theorem aluSbc_eq_aluAdc (p a m : Byte) : aluSbc p a m = aluAdc p a (m ^^^ 0xFF) := by
  simp only [aluSbc, aluAdc, difference_eq_complement_sum, ofInt_sub_256, ge_iff_le, gt_iff_lt, noBorrow_iff_carry,
    overflow_masks_eq]

theorem handleSbc_eq_handleAdc (m : Byte) : handleSbc m = handleAdc (m ^^^ 0xFF) := by
  funext s
  rw [handleSbc, handleAdc, aluSbc_eq_aluAdc]

theorem aluSbc_toNat (p a m : Byte) :
    ((aluSbc p a m).2.toNat : Int) =
      ((a.toNat : Int) - (m.toNat : Int) - (1 - ((getFlag p .c).toNat : Int))) % 256 := by
  rw [aluSbc, BitVec.toNat_ofInt]
  omega

theorem aluSbc_v (p a m : Byte) :
    (flagsOf (aluSbc p a m).1).v = ((a ^^^ m) &&& (a ^^^ (aluSbc p a m).2) &&& 0x80 != 0) := by
  rw [aluSbc_eq_aluAdc, aluAdc_v, overflow_masks_eq]

theorem flagsOf_aluSbc (p a m : Byte) :
    flagsOf (aluSbc p a m).1 = { znOf (flagsOf p) (aluSbc p a m).2.toNat with
      c := decide (0 ≤ (a.toNat : Int) - (m.toNat : Int) - (1 - ((getFlag p .c).toNat : Int)))
      v := decide (signedValue a - signedValue m - (1 - ((getFlag p .c).toNat : Int)) < -128 ∨
        127 < signedValue a - signedValue m - (1 - ((getFlag p .c).toNat : Int))) } := by
  have signed : signedValue a - signedValue m - (1 - ((getFlag p .c).toNat : Int)) =
      signedValue a + signedValue (m ^^^ 0xFF) + ((getFlag p .c).toNat : Int) := by
    rw [signedValue_complement]
    omega
  simp only [aluSbc_eq_aluAdc, flagsOf_aluAdc, difference_eq_complement_sum, noBorrow_iff_carry, signed]

/-! R172-R174: the comparison. -/

theorem flagsOf_aluCompare (p r m : Byte) :
    flagsOf (aluCompare p r m) = { flagsOf p with
      c := decide (m.toNat ≤ r.toNat)
      z := decide (r = m)
      n := decide (128 ≤ (r.toNat + 256 - m.toNat) % 256) } := by
  have negative : (r - m).getLsbD 7 = decide (128 ≤ (r.toNat + 256 - m.toNat) % 256) := by
    have hm := m.isLt
    rw [getLsbD_seven, BitVec.toNat_sub, decide_eq_decide]
    omega
  rw [aluCompare, flagsOf_putFlag, flagsOf_putFlag, flagsOf_putFlag, negative]
  rfl

/-! R175-R180: one more and one less. -/

theorem add_one_toNat (v : Byte) : (v + 1).toNat = (v.toNat + 1) % 256 := BitVec.toNat_add v 1

theorem sub_one_toNat (v : Byte) : (v - 1).toNat = (v.toNat + 255) % 256 := by
  rw [BitVec.toNat_sub, Nat.add_comm]
  rfl

/-! R182: the decimal flag. -/

/-- `P.D <- d`. -/
def writeDecimal (d : Bool) (s : State) : State := s.setP (putFlag s.p .d d)

/-- R182: ADC reads no decimal flag, and leaves it as it is. -/
theorem aluAdc_putFlag_d (p a m : Byte) (d : Bool) :
    aluAdc (putFlag p .d d) a m = (putFlag (aluAdc p a m).1 .d d, (aluAdc p a m).2) := by
  have carry : getFlag (putFlag p .d d) .c = getFlag p .c := getFlag_putFlag p .d .c d
  simp only [aluAdc, setZN, carry, putFlag_comm (f := .d) (g := .c) _ (by decide),
    putFlag_comm (f := .d) (g := .v) _ (by decide), putFlag_comm (f := .d) (g := .z) _ (by decide),
    putFlag_comm (f := .d) (g := .n) _ (by decide)]

theorem handleAdc_writeDecimal (d : Bool) (m : Byte) (s : State) :
    handleAdc m (writeDecimal d s) = writeDecimal d (handleAdc m s) := by
  have alu := aluAdc_putFlag_d s.p s.a m d
  simp only [handleAdc, writeDecimal, State.setP_p, State.setP_a, alu]
  rfl

theorem handleSbc_writeDecimal (d : Bool) (m : Byte) (s : State) :
    handleSbc m (writeDecimal d s) = writeDecimal d (handleSbc m s) := by
  rw [handleSbc_eq_handleAdc, handleAdc_writeDecimal]

/-- R182: an operand is read whatever the decimal flag holds. -/
theorem reading_writeDecimal {handler : Byte → State → State} {d : Bool}
    (inert : ∀ m s, handler m (writeDecimal d s) = writeDecimal d (handler m s)) (o : Operand) (base : Nat)
    (extra : Bool) (s : State) :
    reading o base extra handler (writeDecimal d s) = mapNext (writeDecimal d) (reading o base extra handler s) := by
  have value : o.value (writeDecimal d s) = o.value s := Operand.value_congr rfl rfl rfl rfl o
  have crossed : o.crossed (writeDecimal d s) = o.crossed s := Operand.crossed_congr rfl rfl rfl rfl o
  have handled := inert (o.value s) (s.advance (1 + o.bytes))
  rw [reading, value, crossed]
  exact congrArg (fun u : State => Host.Outcome.next (u.addCycles (cost base extra (o.crossed s)))) handled

/-! The forms. -/

/-- R170-R174: each form of ADC, SBC, CMP, CPX and CPY is the reading shape with its handler. -/
theorem arithmeticForms_implement (b : Byte) (w : Word) :
    (∀ f ∈ adcForms b w, f.Implements handleAdc) ∧ (∀ f ∈ sbcForms b w, f.Implements handleSbc) ∧
      (∀ f ∈ cmpForms b w, f.Implements handleCmp) ∧ (∀ f ∈ cpxForms b w, f.Implements handleCpx) ∧
      ∀ f ∈ cpyForms b w, f.Implements handleCpy := by
  simp only [adcForms, sbcForms, cmpForms, cpxForms, cpyForms, List.forall_mem_cons, List.not_mem_nil,
    IsEmpty.forall_iff, implies_true, and_true]
  and_intros <;> exact ⟨rfl, rfl, fun _ => rfl⟩

/-- R175, R176: each form of INC and DEC is the modifying shape with its function. -/
theorem countForms_implement (b : Byte) (w : Word) :
    (∀ f ∈ incForms b w, f.Implements aluInc) ∧ ∀ f ∈ decForms b w, f.Implements aluDec := by
  simp only [incForms, decForms, List.forall_mem_cons, List.not_mem_nil, IsEmpty.forall_iff, implies_true, and_true]
  and_intros <;> exact ⟨rfl, rfl, fun _ => rfl⟩

end Sys2Proof.Claims

namespace Sys2Proof.Proofs

open Sys2Proof.Machine Sys2Proof.Claims

/-- Settles O31: every form is the reading shape with `handleAdc`; the overflow formula and the signed sum agree by
`overflow_iff_signed_sum`. -/
theorem adcAddsWithCarry : Obligations.AdcAddsWithCarry := by
  intro b w s f mem
  obtain ⟨adc, -⟩ := arithmeticForms_implement b w
  have result := aluAdc_toNat s.p s.a (f.operand.value s)
  have flags := flagsOf_aluAdc s.p s.a (f.operand.value s)
  have overflow := aluAdc_v s.p s.a (f.operand.value s)
  rw [result] at flags
  rw [Bool.eq_iff_iff, bne_iff_ne] at overflow
  exact (adc f mem).runs .adc fun _ => ⟨result, ⟨rfl, rfl, rfl, rfl⟩, fun _ => rfl, flags, overflow⟩

/-- Settles O32: every form is the reading shape with `handleSbc`, which is `handleAdc` of the complement. -/
theorem sbcSubtractsWithBorrow : Obligations.SbcSubtractsWithBorrow := by
  refine fun b w s => ⟨?_, fun f mem => ?_⟩
  · rw [exec_sbcImm, exec_adcImm, reading, handleSbc_eq_handleAdc]
    rfl
  · obtain ⟨-, sbc, -⟩ := arithmeticForms_implement b w
    have result := aluSbc_toNat s.p s.a (f.operand.value s)
    have flags := flagsOf_aluSbc s.p s.a (f.operand.value s)
    have overflow := aluSbc_v s.p s.a (f.operand.value s)
    rw [Bool.eq_iff_iff, bne_iff_ne] at overflow
    exact (sbc f mem).runs .sbc fun _ => ⟨result, ⟨rfl, rfl, rfl, rfl⟩, fun _ => rfl, flags, overflow⟩

/-- Settles O33: both handlers commute with a write of D, and no operand depends on it. -/
theorem decimalFlagIsInert : Obligations.DecimalFlagIsInert := by
  intro b w d s f mem
  obtain ⟨adc, sbc, -⟩ := arithmeticForms_implement b w
  obtain isAdc | isSbc := List.mem_append.mp mem
  · rw [(adc f isAdc).run, (adc f isAdc).run]
    exact reading_writeDecimal (handleAdc_writeDecimal d) _ _ _ s
  · rw [(sbc f isSbc).run, (sbc f isSbc).run]
    exact reading_writeDecimal (handleSbc_writeDecimal d) _ _ _ s

/-- Settles O34: every form is the reading shape with `handleCmp`, which compares `A` and writes `P` only. -/
theorem cmpComparesAccumulator : Obligations.CmpComparesAccumulator := by
  intro b w s f mem
  obtain ⟨-, -, cmp, -⟩ := arithmeticForms_implement b w
  exact (cmp f mem).runs .cmp fun _ => ⟨⟨rfl, rfl, rfl, rfl⟩, fun _ => rfl, flagsOf_aluCompare _ _ _⟩

/-- Settles O35: as CMP, with `X` and with `Y` compared. -/
theorem cpxCpyCompareIndex : Obligations.CpxCpyCompareIndex := by
  intro b w s
  obtain ⟨-, -, -, cpx, cpy⟩ := arithmeticForms_implement b w
  refine ⟨fun f mem => (cpx f mem).runs .cpx fun _ => ?_, fun f mem => (cpy f mem).runs .cpy fun _ => ?_⟩
  all_goals exact ⟨⟨rfl, rfl, rfl, rfl⟩, fun _ => rfl, flagsOf_aluCompare _ _ _⟩

/-- Settles O36: every form is the modifying shape with `aluInc` or `aluDec`, which set Z and N from their result. -/
theorem incDecModifyMemory : Obligations.IncDecModifyMemory := by
  intro b w s
  obtain ⟨inc, dec⟩ := countForms_implement b w
  refine ⟨fun f mem => (inc f mem).runs (add_one_toNat _) ?_, fun f mem => (dec f mem).runs (sub_one_toNat _) ?_⟩
  · rw [← add_one_toNat]
    exact flagsOf_setZN _ _
  · rw [← sub_one_toNat]
    exact flagsOf_setZN _ _

/-- Settles O37: each handler adds or takes away one and then runs `setZN`. -/
theorem indexRegistersCount : Obligations.IndexRegistersCount := by
  intro s
  simp only [← add_one_toNat, ← sub_one_toNat]
  refine ⟨runs_implied .inx rfl rfl rfl ?_, runs_implied .iny rfl rfl rfl ?_, runs_implied .dex rfl rfl rfl ?_,
    runs_implied .dey rfl rfl rfl ?_⟩
  all_goals exact ⟨⟨rfl, rfl, rfl, rfl⟩, rfl, fun _ => rfl, flagsOf_setZN _ _⟩

end Sys2Proof.Proofs
end

section
/-! Logic, bit test, shifts and rotates: the bits of the result in plain arithmetic, and the flags each function sets. -/

namespace Sys2Proof.Claims

open Sys2Proof.Machine

/-! R193: the bit test. -/

theorem getLsbD_six (v : Byte) : v.getLsbD 6 = decide (64 ≤ v.toNat % 128) := by
  have bit : v.getLsbD 6 = decide (v.toNat / 64 % 2 = 1) := Nat.testBit_eq_decide_div_mod_eq
  rw [bit, decide_eq_decide]
  omega

theorem flagsOf_aluBit (p a m : Byte) :
    flagsOf (aluBit p a m) = { flagsOf p with
      z := decide (a &&& m = 0)
      n := decide (128 ≤ m.toNat)
      v := decide (64 ≤ m.toNat % 128) } := by
  rw [aluBit, flagsOf_putFlag, flagsOf_putFlag, flagsOf_putFlag, getLsbD_seven, getLsbD_six]
  rfl

/-! R194-R197: the shifted byte, with the bit that comes in. -/

theorem getLsbD_zero (v : Byte) : v.getLsbD 0 = decide (v.toNat % 2 = 1) := Nat.testBit_zero _

theorem shiftLeft_one_toNat (v : Byte) : (v <<< 1).toNat = 2 * v.toNat % 256 := by
  rw [BitVec.toNat_shiftLeft, Nat.shiftLeft_eq, Nat.mul_comm]

theorem shiftRight_one_toNat (v : Byte) : (v >>> 1).toNat = v.toNat / 2 := by
  rw [BitVec.toNat_ushiftRight, Nat.shiftRight_eq_div_pow]

/-- R196: bit 0 of the doubled byte is free, so the carry that comes in there adds 1. -/
theorem rotateLeft_toNat (v : Byte) (c : Bool) :
    (v <<< 1 ||| if c then (1 : Byte) else 0).toNat = (2 * v.toNat + c.toNat) % 256 := by
  have low : (if c then (1 : Byte) else 0).toNat = c.toNat := by cases c <;> rfl
  have even : 2 * v.toNat % 256 = 2 ^ 1 * (v.toNat % 128) := by omega
  have carry := c.toNat_lt
  rw [BitVec.toNat_or, shiftLeft_one_toNat, low, even, ← Nat.two_pow_add_eq_or_of_lt carry]
  omega

/-- R197: bit 7 of the halved byte is free, so the carry that comes in there adds 128. -/
theorem rotateRight_toNat (v : Byte) (c : Bool) :
    (v >>> 1 ||| (if c then (1 : Byte) else 0) <<< 7).toNat = v.toNat / 2 + 128 * c.toNat := by
  have high : ((if c then (1 : Byte) else 0) <<< 7).toNat = 2 ^ 7 * c.toNat := by cases c <;> rfl
  have half : v.toNat / 2 < 2 ^ 7 := by omega
  rw [BitVec.toNat_or, shiftRight_one_toNat, high, Nat.lor_comm, ← Nat.two_pow_add_eq_or_of_lt half, Nat.add_comm]

theorem aluAsl_toNat (p v : Byte) : (aluAsl p v).2.toNat = 2 * v.toNat % 256 := shiftLeft_one_toNat v

theorem aluLsr_toNat (p v : Byte) : (aluLsr p v).2.toNat = v.toNat / 2 := shiftRight_one_toNat v

theorem aluRol_toNat (p v : Byte) : (aluRol p v).2.toNat = (2 * v.toNat + (getFlag p .c).toNat) % 256 :=
  rotateLeft_toNat v _

theorem aluRor_toNat (p v : Byte) : (aluRor p v).2.toNat = v.toNat / 2 + 128 * (getFlag p .c).toNat :=
  rotateRight_toNat v _

/-! R194-R197: C is the bit that goes out, Z and N are from the result. -/

theorem flagsOf_aluZN_putFlag_c (p r : Byte) (out : Bool) :
    flagsOf (aluZN (putFlag p .c out) r).1 = { znOf (flagsOf p) r.toNat with c := out } := by
  rw [aluZN, flagsOf_setZN, flagsOf_putFlag]
  rfl

theorem flagsOf_aluAsl (p v : Byte) :
    flagsOf (aluAsl p v).1 = { znOf (flagsOf p) (2 * v.toNat % 256) with c := decide (128 ≤ v.toNat) } := by
  rw [aluAsl, flagsOf_aluZN_putFlag_c, getLsbD_seven, shiftLeft_one_toNat]

/-- R195: N is clear, since a halved byte is less than 128. -/
theorem flagsOf_aluLsr (p v : Byte) :
    flagsOf (aluLsr p v).1 = { flagsOf p with
      c := decide (v.toNat % 2 = 1)
      z := decide (v.toNat / 2 = 0)
      n := false } := by
  have clear : decide (128 ≤ v.toNat / 2) = false := decide_eq_false (by omega)
  rw [aluLsr, flagsOf_aluZN_putFlag_c, getLsbD_zero, shiftRight_one_toNat, znOf, clear]

theorem flagsOf_aluRol (p v : Byte) :
    flagsOf (aluRol p v).1 = { znOf (flagsOf p) ((2 * v.toNat + (getFlag p .c).toNat) % 256) with
      c := decide (128 ≤ v.toNat) } := by
  rw [aluRol, flagsOf_aluZN_putFlag_c, getLsbD_seven, rotateLeft_toNat]

theorem flagsOf_aluRor (p v : Byte) :
    flagsOf (aluRor p v).1 = { znOf (flagsOf p) (v.toNat / 2 + 128 * (getFlag p .c).toNat) with
      c := decide (v.toNat % 2 = 1) } := by
  rw [aluRor, flagsOf_aluZN_putFlag_c, getLsbD_zero, rotateRight_toNat]

/-! The forms. -/

/-- R190-R193: each form of AND, ORA, EOR and BIT is the reading shape with its handler. -/
theorem logicForms_implement (b : Byte) (w : Word) :
    (∀ f ∈ andForms b w, f.Implements handleAnd) ∧ (∀ f ∈ oraForms b w, f.Implements handleOra) ∧
      (∀ f ∈ eorForms b w, f.Implements handleEor) ∧ ∀ f ∈ bitForms b w, f.Implements handleBit := by
  simp only [andForms, oraForms, eorForms, bitForms, List.forall_mem_cons, List.not_mem_nil, IsEmpty.forall_iff,
    implies_true, and_true]
  and_intros <;> exact ⟨rfl, rfl, fun _ => rfl⟩

/-- R194-R197: each form of ASL, LSR, ROL and ROR is the modifying shape with its function. -/
theorem shiftForms_implement (b : Byte) (w : Word) :
    (∀ f ∈ aslForms b w, f.Implements aluAsl) ∧ (∀ f ∈ lsrForms b w, f.Implements aluLsr) ∧
      (∀ f ∈ rolForms b w, f.Implements aluRol) ∧ ∀ f ∈ rorForms b w, f.Implements aluRor := by
  simp only [aslForms, lsrForms, rolForms, rorForms, List.forall_mem_cons, List.not_mem_nil, IsEmpty.forall_iff,
    implies_true, and_true]
  and_intros <;> exact ⟨rfl, rfl, fun _ => rfl⟩

end Sys2Proof.Claims

namespace Sys2Proof.Proofs

open Sys2Proof.Machine Sys2Proof.Claims

/-- Settles O38: every form is the reading shape with its handler, which writes the result of the byte operation to `A`
and, by `setZN`, Z and N. -/
theorem logicOperatesBitwise : Obligations.LogicOperatesBitwise := by
  intro b w s
  obtain ⟨and, ora, eor, -⟩ := logicForms_implement b w
  refine ⟨fun f mem => (and f mem).runs .and fun _ => ⟨fun k _ => BitVec.getLsbD_and, ?_⟩,
    fun f mem => (ora f mem).runs .ora fun _ => ⟨fun k _ => BitVec.getLsbD_or, ?_⟩,
    fun f mem => (eor f mem).runs .eor fun _ => ⟨fun k _ => BitVec.getLsbD_xor, ?_⟩⟩
  all_goals exact ⟨⟨rfl, rfl, rfl, rfl⟩, fun _ => rfl, flagsOf_setZN _ _⟩

/-- Settles O39: both forms are the reading shape with `handleBit`, which writes `P` only. -/
theorem bitTestsMemory : Obligations.BitTestsMemory := by
  intro b w s f mem
  obtain ⟨-, -, -, bit⟩ := logicForms_implement b w
  exact (bit f mem).runs .bit fun _ => ⟨⟨rfl, rfl, rfl, rfl⟩, fun _ => rfl, flagsOf_aluBit _ _ _⟩

/-- Settles O40: every form is the modifying shape with `aluAsl`. -/
theorem aslShiftsLeft : Obligations.AslShiftsLeft := by
  intro b w s f mem
  obtain ⟨asl, -⟩ := shiftForms_implement b w
  exact (asl f mem).runs (aluAsl_toNat _ _) (flagsOf_aluAsl _ _)

/-- Settles O41: every form is the modifying shape with `aluLsr`. -/
theorem lsrShiftsRight : Obligations.LsrShiftsRight := by
  intro b w s f mem
  obtain ⟨-, lsr, -⟩ := shiftForms_implement b w
  exact (lsr f mem).runs (aluLsr_toNat _ _) (flagsOf_aluLsr _ _)

/-- Settles O42: every form is the modifying shape with `aluRol`, whose carry in is that of the state before. -/
theorem rolRotatesLeft : Obligations.RolRotatesLeft := by
  intro b w s f mem
  obtain ⟨-, -, rol, -⟩ := shiftForms_implement b w
  exact (rol f mem).runs (aluRol_toNat _ _) (flagsOf_aluRol _ _)

/-- Settles O43: every form is the modifying shape with `aluRor`, whose carry in is that of the state before. -/
theorem rorRotatesRight : Obligations.RorRotatesRight := by
  intro b w s f mem
  obtain ⟨-, -, -, ror⟩ := shiftForms_implement b w
  exact (ror f mem).runs (aluRor_toNat _ _) (flagsOf_aluRor _ _)

end Sys2Proof.Proofs
end

section
/-! Control flow: the target and the cycles of a branch in plain arithmetic, and the pulled status. -/

namespace Sys2Proof.Machine

open Sys2Proof.Claims

/-! R128, R210: the displaced target. -/

/-- R8: sign extension keeps the signed value, mod 65536. -/
theorem sext16_toNat (d : Byte) : ((sext16 d).toNat : Int) = signedValue d % 65536 := by
  have hd := d.isLt
  rw [sext16, signedValue, getLsbD_seven]
  by_cases negative : 128 ≤ d.toNat
  · rw [if_pos (decide_eq_true negative), if_neg (Nat.not_lt.mpr negative), BitVec.toNat_add, zext16_toNat,
      show (0xFF00 : Word).toNat = 65280 from rfl]
    omega
  · rw [if_neg (by simpa using negative), if_pos (Nat.lt_of_not_le negative), zext16_toNat]
    omega

/-- R128: the target is counted from the next instruction. -/
theorem resolve_relative_ea_toNat (d : Byte) (s : State) :
    ((resolve (.relative d) s).ea.toNat : Int) = ((s.pc.toNat : Int) + 2 + signedValue d) % 65536 := by
  have displacement := sext16_toNat d
  rw [resolve, BitVec.toNat_add, BitVec.toNat_add, show (2 : Word).toNat = 2 from rfl]
  omega

/-- R128, R135: the branch reports a crossing when its target lies in another page than the next instruction. -/
theorem resolve_relative_pageCrossed (d : Byte) (s : State) :
    (resolve (.relative d) s).pageCrossed =
      decide ((resolve (.relative d) s).ea.toNat / 256 ≠ (s.pc.toNat + 2) % 65536 / 256) :=
  (pagesDiffer_eq_decide _ (s.pc + 2)).trans (by rw [BitVec.toNat_add]; rfl)

/-- R210: a taken branch costs one cycle more, and a second one when it leaves the page. -/
theorem taken_cycles (d : Byte) (s : State) :
    2 + 1 + (if (resolve (.relative d) s).pageCrossed then 1 else 0) =
      if (resolve (.relative d) s).ea.toNat / 256 = (s.pc.toNat + 2) % 65536 / 256 then 3 else 4 := by
  simp only [resolve_relative_pageCrossed, decide_eq_true_eq, ite_not]
  split <;> rfl

/-! R38: the pulled status. -/

theorem pulledP_eq_putFlag (b : Byte) : pulledP b = putFlag b .u true :=
  eq_of_flags fun f => (getFlag_pulledP b f).trans (getFlag_putFlag b .u f true).symm

theorem flagsOf_pulledP (b : Byte) : flagsOf (pulledP b) = { flagsOf b with u := true } := by
  rw [pulledP_eq_putFlag, flagsOf_putFlag]
  rfl

end Sys2Proof.Machine

namespace Sys2Proof.Claims

open Sys2Proof.Machine

/-- A branch is encoded as its opcode and the displacement, and is the branching shape on a flag and a value of it that
mean its condition (R210). -/
structure BranchForm.Implements (f : BranchForm) (flag : Flag) (want : Bool) : Prop where
  bytes : ∀ d, encode (f.make d) = [f.opcode, d]
  cond : ∀ p, f.cond (flagsOf p) = true ↔ getFlag p flag = want
  run : ∀ d s, exec (f.make d) s = branching flag want d 2 s

/-- R211-R218: the flag each branch tests, and the value it is taken on. -/
theorem branchForms_implement : ∀ f ∈ branchForms, ∃ flag want, f.Implements flag want := by
  have clear (b : Bool) : (!b) = true ↔ b = false := iff_of_eq (Bool.not_eq_true' b)
  simp only [branchForms, List.forall_mem_cons, List.not_mem_nil, IsEmpty.forall_iff, implies_true, and_true]
  exact ⟨
    ⟨.n, false, fun _ => rfl, fun _ => clear _, fun _ _ => rfl⟩,
    ⟨.n, true, fun _ => rfl, fun _ => .rfl, fun _ _ => rfl⟩,
    ⟨.v, false, fun _ => rfl, fun _ => clear _, fun _ _ => rfl⟩,
    ⟨.v, true, fun _ => rfl, fun _ => .rfl, fun _ _ => rfl⟩,
    ⟨.c, false, fun _ => rfl, fun _ => clear _, fun _ _ => rfl⟩,
    ⟨.c, true, fun _ => rfl, fun _ => .rfl, fun _ _ => rfl⟩,
    ⟨.z, false, fun _ => rfl, fun _ => clear _, fun _ _ => rfl⟩,
    ⟨.z, true, fun _ => rfl, fun _ => .rfl, fun _ _ => rfl⟩⟩

end Sys2Proof.Claims

namespace Sys2Proof.Proofs

open Sys2Proof.Machine Sys2Proof.Claims

/-- Settles O44: each form is the branching shape, which is either taken or not and writes `PC` and the cycles only. -/
theorem branchesTestTheirFlag : Obligations.BranchesTestTheirFlag := by
  intro d s f mem
  obtain ⟨flag, want, form⟩ := branchForms_implement f mem
  obtain ⟨t, run, control, -⟩ := everyInstructionCompletes (f.make d) s
  refine ⟨form.bytes d, t, run, control, ?_⟩
  obtain ⟨taken, rfl⟩ | ⟨notTaken, rfl⟩ := branching_next ((form.run d s).symm.trans run)
  · rw [if_pos ((form.cond s.p).mpr taken)]
    exact ⟨fun _ => rfl, ⟨rfl, rfl, rfl, rfl⟩, rfl, resolve_relative_ea_toNat d s,
      congrArg (s.cycles + ·) (taken_cycles d s)⟩
  · rw [if_neg (mt (form.cond s.p).mp notTaken)]
    exact ⟨fun _ => rfl, ⟨rfl, rfl, rfl, rfl⟩, rfl, State.advance_pc_toNat s 2, rfl⟩

/-- Settles O45: the operand is the target, or the pointer to it, whose high byte O23 places. -/
theorem jmpSetsProgramCounter : Obligations.JmpSetsProgramCounter := by
  intro w s
  obtain ⟨-, pointer, -⟩ := pointerReadsWrapAsStated s w 0
  exact ⟨rfl, rfl, rfl, _, exec_jmpInd w s, ⟨rfl, rfl, rfl, rfl, rfl⟩, fun _ => rfl, ⟨rfl, rfl, rfl, rfl⟩, rfl, rfl,
    pointer⟩

/-- Settles O50: the pulled status and word are three bytes of the stack, and nothing is written. -/
theorem rtiRestoresStatusAndPc : Obligations.RtiRestoresStatusAndPc := by
  refine fun s => ⟨rfl, _, exec_rti s, ?_⟩
  refine ⟨by simp [SameControl], State.read8_returnFromInterrupt (s.advance 1), by simp [Regs], ?_, ?_, by simp⟩
  · rw [State.addCycles_p, State.returnFromInterrupt_p]
    exact flagsOf_pulledP _
  · rw [State.addCycles_pc, State.returnFromInterrupt_pc, wordOf_toNat]
    rfl

end Sys2Proof.Proofs
end

section
/-! The stack and the flags: what a push leaves, the pushed status, and the flag that each flag instruction writes. -/

namespace Sys2Proof.Claims

open Sys2Proof.Machine

/-- R37: the byte PHP pushes is `P` with B and the unused bit set. -/
theorem flagsOf_pushedP_true (p : Byte) : flagsOf (pushedP true p) = { flagsOf p with b := true, u := true } := by
  have twoWrites : pushedP true p = putFlag (putFlag p .b true) .u true :=
    eq_of_flags fun f => by rw [getFlag_pushedP, getFlag_putFlag, getFlag_putFlag]
  rw [twoWrites, flagsOf_putFlag, flagsOf_putFlag]
  rfl

/-- R68, R240, R241: what a one-byte instruction that pushes `v` leaves: `v` at the old stack address, `SP` down by 1,
and all else but `PC` and the cycles as before. -/
theorem advance_push_frame (s : State) (v : Byte) (n : Nat) :
    let t := ((s.advance 1).push v).addCycles n
    t.read8 (stackAddr s.sp) = v ∧ SameMemoryBut s t (stackAddr s.sp) ∧ Regs t s.a s.x s.y t.sp ∧
      t.sp.toNat = (s.sp.toNat + 255) % 256 ∧ t.p = s.p := by
  refine ⟨?_, fun addr other => ?_, ⟨rfl, rfl, rfl, rfl⟩, sub_one_toNat s.sp, rfl⟩
  · rw [State.read8_addCycles, State.read8_push, State.advance_sp, if_pos rfl]
  · rw [State.read8_addCycles, State.read8_push, State.advance_sp, if_neg other, State.read8_advance]

/-- A flag instruction is encoded as its opcode, and is the implied shape whose handler writes `value` to `flag` of `P`
(R244-R250). -/
structure FlagForm.Implements (f : FlagForm) (flag : Flag) (value : Bool) : Prop where
  bytes : encode f.instr = [f.opcode]
  write : ∀ fl, f.write fl = putFlags fl flag value
  run : ∀ s, exec f.instr s = implied 2 (fun t => t.setP (putFlag t.p flag value)) s

/-- R244-R250: the flag each flag instruction writes, and the value it writes there. -/
theorem flagForms_implement : ∀ f ∈ flagForms, ∃ flag value, f.Implements flag value := by
  simp only [flagForms, List.forall_mem_cons, List.not_mem_nil, IsEmpty.forall_iff, implies_true, and_true]
  exact ⟨
    ⟨.c, false, rfl, fun _ => rfl, fun _ => rfl⟩,
    ⟨.c, true, rfl, fun _ => rfl, fun _ => rfl⟩,
    ⟨.i, false, rfl, fun _ => rfl, fun _ => rfl⟩,
    ⟨.i, true, rfl, fun _ => rfl, fun _ => rfl⟩,
    ⟨.d, false, rfl, fun _ => rfl, fun _ => rfl⟩,
    ⟨.d, true, rfl, fun _ => rfl, fun _ => rfl⟩,
    ⟨.v, false, rfl, fun _ => rfl, fun _ => rfl⟩⟩

/-- R24: `PC` one past an address, in plain arithmetic. -/
theorem ofNat_toNat_add_one (pc : Word) : BitVec.ofNat 16 (pc.toNat + 1) = pc + 1 := by
  rw [BitVec.ofNat_add, BitVec.ofNat_toNat, BitVec.setWidth_eq]
  rfl

end Sys2Proof.Claims

namespace Sys2Proof.Proofs

open Sys2Proof.Machine Sys2Proof.Claims

/-- Settles O52: both are one push, of `A` and of the status with bits 4 and 5 set. -/
theorem phaPhpPush : Obligations.PhaPhpPush := by
  intro s
  obtain ⟨status, frame⟩ := advance_push_frame s (pushedP true s.p) 3
  refine ⟨stackAddr_toNat s.sp, runs_implied .pha rfl rfl rfl (advance_push_frame s s.a 3),
    runs_implied .php rfl rfl rfl ⟨?_, frame⟩⟩
  exact (congrArg flagsOf status).trans (flagsOf_pushedP_true s.p)

/-- Settles O53: both pull one byte, from which PLA sets Z and N and PLP the whole status; memory is only read. -/
theorem plaPlpPull : Obligations.PlaPlpPull := by
  refine fun s => ⟨runs_implied .pla rfl rfl rfl ?_, runs_implied .plp rfl rfl rfl ?_⟩
  · exact ⟨⟨rfl, rfl, rfl, rfl⟩, add_one_toNat s.sp, fun _ => rfl, flagsOf_setZN _ _⟩
  · exact ⟨⟨rfl, rfl, rfl, rfl⟩, add_one_toNat s.sp, fun _ => rfl, flagsOf_pulledP _⟩

/-- Settles O55: every form writes one flag of `P`, and a write of one flag keeps the others. -/
theorem flagInstructionsWriteOneFlag : Obligations.FlagInstructionsWriteOneFlag := by
  intro s f mem
  obtain ⟨flag, value, form⟩ := flagForms_implement f mem
  refine runs_of_exec (by rw [form.bytes]; rfl) (by rw [form.bytes]; rfl) (form.run s) rfl ⟨rfl, rfl, rfl, rfl, rfl⟩
    rfl ⟨⟨rfl, rfl, rfl, rfl⟩, fun _ => rfl, ?_⟩
  rw [form.write]
  exact flagsOf_putFlag s.p flag value

/-- Settles O56: the handler of NOP answers the state past the instruction as it is. -/
theorem nopOnlyAdvances : Obligations.NopOnlyAdvances := by
  refine fun s => ⟨rfl, ?_⟩
  rw [ofNat_toNat_add_one]
  exact exec_nop s

end Sys2Proof.Proofs
end
